-- ==== Sys2Proof/Word.lean ====
section
/-! DEFINITION. The word types of checksum_16bit_engine (spec/00_scope.md R9, R10). -/

namespace Sys2Proof

/-- A byte: an unsigned 8-bit value, bit 0 least significant (R9). -/
abbrev Byte := BitVec 8

/-- A 16-bit value: the checksum, the accumulator, the response's `Val` (R23, R25). -/
abbrev Word16 := BitVec 16

/-- A byte string: a finite sequence of bytes, indexed from 0 (R10). -/
abbrev Bytes := List Byte

end Sys2Proof
end

