-- ==== Sys2Proof/Config.lean ====
section
/-! DEFINITION. What the implementation fixes and the spec leaves OPEN (spec/00_scope.md R6): the eight
constants and DEBUG. Each is an opaque constant with no body, so nothing in Lean can prove a value of it.
They enter the machine only as the construction-time values in `State.reset`; the machine itself reads the
copy the state holds, so every statement over all states holds for every choice of them. -/

namespace Sys2Proof

/-- The eight constants a host fixes at construction (R6, R17). A byte string stands in wire order, index 0
first (R31), and its length is part of its type. -/
structure Params where
  /-- `FC`, the Frame Control pair: two opaque bytes (R50). -/
  fc : Vector Byte 2
  /-- `DST_PAN`, Destination PAN ID. -/
  dstPan : Vector Byte 2
  /-- `DST_ADDR`, Destination Address. -/
  dstAddr : Vector Byte 8
  /-- `SRC_ADDR`, Source Address. -/
  srcAddr : Vector Byte 8
  /-- `CMD_MARKER`, the Command Sub-Frame's first byte. -/
  cmdMarker : Byte
  /-- `SUB_SRC_ADDR`, the sub-frame's source address block. -/
  subSrcAddr : Vector Byte 8
  /-- `SUB_DST_ADDR`, the sub-frame's destination address block. -/
  subDstAddr : Vector Byte 8
  /-- `SUB_PAN`, the sub-frame's trailing PAN ID. -/
  subPan : Vector Byte 2
  deriving DecidableEq, Repr

namespace Config

/-- `FC` (R6: OPEN). DESIGN CHOICE, log entry 1. -/
opaque fc : Vector Byte 2
/-- `DST_PAN` (R6: OPEN). -/
opaque dstPan : Vector Byte 2
/-- `DST_ADDR` (R6: OPEN). -/
opaque dstAddr : Vector Byte 8
/-- `SRC_ADDR` (R6: OPEN). -/
opaque srcAddr : Vector Byte 8
/-- `CMD_MARKER` (R6: OPEN). -/
opaque cmdMarker : Byte
/-- `SUB_SRC_ADDR` (R6: OPEN). -/
opaque subSrcAddr : Vector Byte 8
/-- `SUB_DST_ADDR` (R6: OPEN). -/
opaque subDstAddr : Vector Byte 8
/-- `SUB_PAN` (R6: OPEN). -/
opaque subPan : Vector Byte 2
/-- `DEBUG` (R6: an argument with no effect, R18). Log entry 6. -/
opaque debug : Bool

/-- The eight constants together, as a host supplies them at construction (R115). -/
def params : Params where
  fc := fc
  dstPan := dstPan
  dstAddr := dstAddr
  srcAddr := srcAddr
  cmdMarker := cmdMarker
  subSrcAddr := subSrcAddr
  subDstAddr := subDstAddr
  subPan := subPan

end Config

end Sys2Proof
end

