-- ==== Sys2Proof/Syntax.lean ====
section
/-! DEFINITION. The operations (spec/opcode_table.json, R44), the request that carries one (R25) and the
assembler lines for test programs (R48). -/

namespace Sys2Proof

/-- The closed set of five operations, one per row of spec/opcode_table.json (R3, R44). An operation has no
operand field in its command word: its operands arrive on the request port (R19, R45). -/
inductive Instr where
  /-- `CRC16` (R60). -/
  | crc16
  /-- `ENCODE` (R80). -/
  | encode
  /-- `DECODE` (R92). -/
  | decode
  /-- `SEQ_INC` (R94). -/
  | seqInc
  /-- `SEND` (R95). -/
  | send
  deriving DecidableEq, Repr

/-- One request: the three input ports (R25). `In` is finite (R115) and of any length (decision D8). -/
structure Request where
  /-- `Cmd`, the command word (R43). -/
  cmd : Byte
  /-- `In`, the payload, the frame or the buffer. -/
  inp : Bytes
  /-- `SeqIn`, the sequence operand of `ENCODE`. -/
  seqIn : Byte
  deriving DecidableEq, Repr

/-- One line of a test program (R48), its operands already read as bytes. DESIGN CHOICE, log entry 8: the
text of a line is not parsed. -/
inductive AsmLine where
  | crc16 (bytes : Bytes)
  | encode (bytes : Bytes) (seq : Byte)
  | decode (bytes : Bytes)
  | seqInc
  | send (bytes : Bytes)
  /-- `.cmd <byte>`, a raw command word. -/
  | raw (cmd : Byte)
  deriving DecidableEq, Repr

end Sys2Proof
end

