-- ==== Sys2Proof/WellFormed.lean ====
section
/-! DEFINITION. Which command words select an operation (R43, R44, R46) and the two named properties of the
OPEN constants (R7). An `Instr` has no operand, so each of its terms is well formed; what can be ill formed is
a command word. -/

namespace Sys2Proof

/-- The reserved field `Cmd[7:3]` is `00000` (R43). -/
def reservedFieldClear (cmd : Byte) : Bool := cmd.extractLsb' 3 5 == 0b00000#5

/-- The operation field `Cmd[2:0]` is none of the reserved `101`, `110`, `111` (R44). -/
def operationAssigned (cmd : Byte) : Bool :=
  let op := cmd.extractLsb' 0 3
  op != 0b101#3 && op != 0b110#3 && op != 0b111#3

/-- A command word that selects an operation (R46). -/
def cmdWellFormed (cmd : Byte) : Bool := reservedFieldClear cmd && operationAssigned cmd

/-- `P_SUBPAN_SWAP` (R7): expected of the constants, enforced by no rule; a claim that needs it takes it as a
premise. -/
abbrev Params.SubPanSwap (p : Params) : Prop := p.subPan = #v[p.dstPan[1], p.dstPan[0]]

/-- `P_SUBSRC_DISTINCT` (R7): as above. -/
abbrev Params.SubSrcDistinct (p : Params) : Prop := p.subSrcAddr ≠ p.srcAddr

end Sys2Proof
end

