-- ==== Sys2Proof/Decode.lean ====
section
/-! DEFINITION. The command word: its decoder, total on any bytes and rejecting by name (R43, R44, R46), its
encoder, and the assembly of a test-program line (R48). -/

namespace Sys2Proof

/-- Why bytes select no operation. -/
inductive Reserved where
  /-- There is no command word to read. -/
  | noWord
  /-- `RSV` is not `00000` (R46). -/
  | reservedField (rsv : BitVec 5)
  /-- `OP` is `101`, `110` or `111` (R46). -/
  | reservedOperation (op : BitVec 3)
  deriving DecidableEq, Repr

/-- `OP`, the field `Cmd[2:0]` (R43). -/
def cmdOp (cmd : Byte) : BitVec 3 := cmd.extractLsb' 0 3

/-- `RSV`, the field `Cmd[7:3]` (R43). -/
def cmdRsv (cmd : Byte) : BitVec 5 := cmd.extractLsb' 3 5

/-- The operation `OP` selects when `RSV` is clear (R44). -/
def decodeOp (op : BitVec 3) : Except Reserved Instr :=
  match op.toNat with
  | 0 => .ok .crc16
  | 1 => .ok .encode
  | 2 => .ok .decode
  | 3 => .ok .seqInc
  | 4 => .ok .send
  | _ => .error (.reservedOperation op)

/-- The operation a command word selects, from its 8 bits alone (R43, R46). -/
def decodeCmd (cmd : Byte) : Except Reserved Instr :=
  if cmdRsv cmd = 0b00000#5 then decodeOp (cmdOp cmd) else .error (.reservedField (cmdRsv cmd))

/-- Reads one command word from the front of any bytes: the operation and the bytes after it. There is one
format and one length (R43, R56). -/
def decode : Bytes → Except Reserved (Instr × Bytes)
  | [] => .error .noWord
  | cmd :: rest => (decodeCmd cmd).map fun i => (i, rest)

/-- The `OP` column of R44's table. -/
def opOf : Instr → BitVec 3
  | .crc16 => 0b000#3
  | .encode => 0b001#3
  | .decode => 0b010#3
  | .seqInc => 0b011#3
  | .send => 0b100#3

/-- The command word of an operation: `RSV = 00000` above `OP` (R43, R44). -/
def cmdWord (i : Instr) : Byte := 0b00000#5 ++ opOf i

/-- The words of an operation: one command word. -/
def encode (i : Instr) : Bytes := [cmdWord i]

/-- The bytes of a table word of `nbits` bits, first byte least significant, as spec/opcode_table.json
numbers its bits; at least the one byte every operation has. -/
def tableBytes (nbits w : Nat) : Bytes :=
  (List.range (max 1 (nbits / 8))).map fun k => BitVec.ofNat 8 ((w % 2 ^ nbits) / 2 ^ (8 * k))

/-- What the decoder reads from a table word (the host's interface). -/
def decodeTableWord (nbits w : Nat) : Option Instr :=
  match decode (tableBytes nbits w) with
  | .ok (i, _) => some i
  | .error _ => none

/-- A line's request (R48): `In` is the line's bytes or `[]`, `SeqIn` its sequence operand or `0x00`. -/
def assemble : AsmLine → Request
  | .crc16 b => ⟨cmdWord .crc16, b, 0x00#8⟩
  | .encode b s => ⟨cmdWord .encode, b, s⟩
  | .decode b => ⟨cmdWord .decode, b, 0x00#8⟩
  | .seqInc => ⟨cmdWord .seqInc, [], 0x00#8⟩
  | .send b => ⟨cmdWord .send, b, 0x00#8⟩
  | .raw c => ⟨c, [], 0x00#8⟩

end Sys2Proof
end

