-- ==== Sys2Proof/Machine/State.lean ====
section
/-! DEFINITION. The state of the block, as plain data: the Sequence Counter, the construction-time
configuration, the request and response ports (R13, R25), and the host's events still to come (R115). -/

namespace Sys2Proof.Machine

/-- A response status (R47). Its number is `statusCode` (Machine/Flags.lean). -/
inductive Status where
  /-- Code 0: success, every operation. -/
  | ok
  /-- Code 1: `ENCODE`, `SEND`; a plain payload with `21 + N + 2 > 256` (R73). -/
  | payloadTooLarge
  /-- Code 2: `DECODE`; fewer than 23 bytes (R82). -/
  | frameTooShort
  /-- Code 3: `DECODE`; the checksum over the whole frame is not 0 (R84). -/
  | checksumMismatch
  /-- Code 4: `ENCODE`, `SEND`; no bytes (R69). -/
  | emptyPayload
  /-- Code 5: `ENCODE`, `SEND`; a `#` payload of fewer than 6 bytes (R75). -/
  | commandTooShort
  /-- Code 6: a reserved command word (R46). -/
  | unrecognizedInputShape
  deriving DecidableEq, Repr

/-- One response: the three output ports (R25). -/
structure Response where
  /-- `Status`, the outcome. -/
  status : Status
  /-- `Out`, the frame or the payload. -/
  out : Bytes
  /-- `Val`, the checksum. -/
  val : Word16
  deriving DecidableEq, Repr

/-- What the host does next to a constructed block (R115). -/
inductive HostEvent where
  /-- Issue one operation. -/
  | request (r : Request)
  /-- The reset event, between two operations (R116). -/
  | reset
  deriving DecidableEq, Repr

/-- The block. -/
structure State where
  /-- `SEQ`, the Sequence Counter (R14). -/
  seq : Byte
  /-- The eight constants fixed at construction (R17). -/
  params : Params
  /-- `DEBUG`, fixed at construction, with no effect (R18). -/
  debug : Bool
  /-- The request ports `Cmd`, `In`, `SeqIn`, as the last request drove them (R25). Log entry 4. -/
  port : Request
  /-- The host's events still to come, oldest first (R38, R115). The model's own field, log entry 3. -/
  pending : List HostEvent
  /-- The response ports `Status`, `Out`, `Val`: the last operation's response, `none` when none is defined
  (R25, R117). -/
  response : Option Response
  deriving DecidableEq, Repr

/-- Why the machine stops: never. The spec has no trap mechanism (R106) and every operation on every input
ends in exactly one response (spec/93_implementation_defined.md), so this type has no constructor. Safe: there
is nothing to raise. -/
inductive Fault where
  deriving DecidableEq, Repr

/-- Why an instruction has no meaning. -/
inductive Refusal where
  /-- Raised by no arm of `exec`: every operation has its meaning. Safe. -/
  | notModelled (mnemonic : String)
  deriving DecidableEq, Repr

/-- The block a host constructs with constants `p` and debug flag `d` (R115, R117, R118): `SEQ` is 0x00 (R16),
no response is defined. The ports' values are the model's, read by nothing (log entry 4). -/
def State.construct (p : Params) (d : Bool) : State where
  seq := 0x00#8
  params := p
  debug := d
  port := ⟨0x00#8, [], 0x00#8⟩
  pending := []
  response := none

/-- The machine right after reset, which is construction (R116), with the OPEN configuration (R6). -/
def State.reset : State := State.construct Config.params Config.debug

end Sys2Proof.Machine
end

