-- ==== Sys2Proof/Machine/Operands.lean ====
section
/-! DEFINITION. Byte strings (R10), the layout numbers with a fixed value (R6, R8), the fields of a frame
(R49) and the operands an operation takes (R45). -/

namespace Sys2Proof.Machine

/-- `b[i, j)`: the bytes of indices `i` to `j - 1`, empty when `j <= i` (R10). -/
def slice (b : Bytes) (i j : Nat) : Bytes := (b.drop i).take (j - i)

/-- `le16(v)`: low byte, then high byte (R10, R29). -/
def le16 (v : Word16) : Bytes := [v.extractLsb' 0 8, v.extractLsb' 8 8]

/-- `a ^ e` on byte strings of equal length (R64 item 5). -/
def xorBytes (a e : Bytes) : Bytes := List.zipWith (· ^^^ ·) a e

/-- The byte string with bit `k` of byte `i` flipped (R65, R90). -/
def flipBit (b : Bytes) (i k : Nat) : Bytes := b.modify i (· ^^^ (1#8 <<< k))

/-- `HEADER_LEN` (R6). -/
def headerLen : Nat := 21
/-- `CHECKSUM_LEN` (R6). -/
def checksumLen : Nat := 2
/-- `MIN_FRAME_LEN` (R6). -/
def minFrameLen : Nat := 23
/-- `FRAME_CAPACITY` (R6): the encoder's frame buffer, in bytes (R24). -/
def frameCapacity : Nat := 256
/-- `CMD_INPUT_READ` (R6): a command payload's bytes 0 to 5. -/
def cmdInputRead : Nat := 6
/-- `CMD_TRIGGER` (R6): the ASCII code of `#`. PRESUMED by the spec (G1), log entry 10. -/
def cmdTrigger : Byte := 0x23#8

/-- Frame Control, frame bytes `[0, 2)` (R49). -/
def frameControl (f : Bytes) : Bytes := slice f 0 2
/-- Sequence Number, frame bytes `[2, 3)`. -/
def frameSeq (f : Bytes) : Bytes := slice f 2 3
/-- Destination PAN ID, frame bytes `[3, 5)`. -/
def frameDstPan (f : Bytes) : Bytes := slice f 3 5
/-- Destination Address, frame bytes `[5, 13)`. -/
def frameDstAddr (f : Bytes) : Bytes := slice f 5 13
/-- Source Address, frame bytes `[13, 21)`. -/
def frameSrcAddr (f : Bytes) : Bytes := slice f 13 21
/-- Payload, frame bytes `[21, len - 2)`: a frame's `N` comes from its length alone (R55). -/
def framePayload (f : Bytes) : Bytes := slice f headerLen (f.length - checksumLen)
/-- Checksum, the last two bytes. -/
def frameChecksum (f : Bytes) : Bytes := slice f (f.length - checksumLen) f.length

/-- The `In` operand: buffer, payload or frame, whole (R45). -/
def inputOperand (s : State) : Bytes := s.port.inp

/-- The `SeqIn` operand of `ENCODE` (R45). -/
def seqOperand (s : State) : Byte := s.port.seqIn

/-- The counter `SEND` reads (R15, R45). -/
def counterOperand (s : State) : Byte := s.seq

end Sys2Proof.Machine
end

