-- ==== Sys2Proof/Machine/Flags.lean ====
section
/-! DEFINITION. The block has no flags or condition codes (R22). What stands in their place: the status
numbers (R47) and the conditions that decide a status (R100), each written once. -/

namespace Sys2Proof.Machine

/-- The number of a status (R47). -/
def statusCode : Status → Nat
  | .ok => 0
  | .payloadTooLarge => 1
  | .frameTooShort => 2
  | .checksumMismatch => 3
  | .emptyPayload => 4
  | .commandTooShort => 5
  | .unrecognizedInputShape => 6

/-- `len(p) = 0` (R69). -/
def isEmptyPayload (p : Bytes) : Bool := p.length == 0

/-- `p[0] = 0x23`: the Command Sub-Frame variant, by the first byte alone (R71). -/
def isCommandPayload (p : Bytes) : Bool := p.head? == some cmdTrigger

/-- A command payload lacks some of the bytes `p[1]` to `p[5]` (R75). -/
def isCommandTooShort (p : Bytes) : Bool := p.length < cmdInputRead

/-- The frame of a plain payload would exceed the frame buffer (R73). -/
def isPayloadTooLarge (p : Bytes) : Bool := headerLen + p.length + checksumLen > frameCapacity

/-- `len(f) < 23` (R82). -/
def isFrameTooShort (f : Bytes) : Bool := f.length < minFrameLen

end Sys2Proof.Machine
end

