-- ==== Sys2Proof/Machine/Ops.lean ====
section
/-! DEFINITION. The named operations on the state: driving the ports, responding, raising an error (the
block's whole exception mechanism, R101, R106), writing the counter, and reset. There is no memory (R27) and no
return from an error, which ends its own operation (R107). -/

namespace Sys2Proof.Machine

/-- The host drives the request ports with `r`; `rest` is what it does afterwards (R25, R115). -/
def State.latch (s : State) (r : Request) (rest : List HostEvent) : State :=
  { s with port := r, pending := rest }

/-- `respond OK` with the outputs built (R11). -/
def State.respond (s : State) (out : Bytes) (val : Word16) : State :=
  { s with response := some ⟨.ok, out, val⟩ }

/-- `raise <Error>`: the status alone, `Out = []`, `Val = 0x0000`, nothing else written (R11, R101). -/
def State.raise (s : State) (e : Status) : State :=
  { s with response := some ⟨e, [], 0x0000#16⟩ }

/-- How `ENCODE`, `SEND` and `DECODE` end (R80, R92, R95): on `OK` they respond with the bytes from `done`, the
state with the operation's effects; on an error they raise it from `s`, with none of them (R36, R101). -/
def State.deliver (s done : State) (result : Status × Bytes) : State :=
  if result.1 = .ok then done.respond result.2 0x0000#16 else s.raise result.1

/-- `next(s) = (s + 1) mod 256` (R93). -/
def nextSeq (v : Byte) : Byte := v + 1#8

/-- `SEQ <- (SEQ + 1) mod 256` (R93). -/
def State.advanceSeq (s : State) : State := { s with seq := nextSeq s.seq }

/-- The answer to a command word that selects no operation: no operand is read (R46). -/
def State.rejectWord (s : State) : State := s.raise .unrecognizedInputShape

/-- The reset event: `SEQ` is 0x00, no response is pending, nothing else changes (R116, R117); `rest` is what
the host does afterwards. -/
def State.applyReset (s : State) (rest : List HostEvent) : State :=
  { s with seq := 0x00#8, response := none, pending := rest }

/-- The host's very next event is a request with command word `cmd` and the operands on the ports (log
entry 9). -/
def State.issue (s : State) (cmd : Byte) : State :=
  { s with pending := .request ⟨cmd, s.port.inp, s.port.seqIn⟩ :: s.pending }

end Sys2Proof.Machine
end

