-- ==== Sys2Proof/Machine/Checksum.lean ====
section
/-! DEFINITION. The Checksum Engine (spec/40_checksum.md) and the `CRC16` operation. -/

namespace Sys2Proof.Machine

/-- `CRC_INIT` (R6). -/
def crcInit : Word16 := 0x0000#16

/-- `CRC_MASK`: bits 15, 10 and 3 (R57). -/
def crcMask : Word16 := 0x8408#16

/-- One bit step (R58): the accumulator after input bit `x`. -/
def crcBit (acc : Word16) (x : Bool) : Word16 :=
  let inputBit := x ^^ acc.getLsbD 0
  let shifted := acc >>> 1
  if inputBit then shifted ^^^ crcMask else shifted

/-- The bits of a byte in the order the engine takes them: bit 0 first, bit 7 last (R30). -/
def byteBits (v : Byte) : List Bool :=
  [v.getLsbD 0, v.getLsbD 1, v.getLsbD 2, v.getLsbD 3,
   v.getLsbD 4, v.getLsbD 5, v.getLsbD 6, v.getLsbD 7]

/-- The input bits of a byte string: bytes in increasing index order (R30). -/
def bitStream (b : Bytes) : List Bool := b.flatMap byteBits

/-- `checksum(b)`: one bit step per input bit from `CRC_INIT`, no final step (R59). Its accumulator is the
block's `ACC` (R23). -/
def checksum (b : Bytes) : Word16 := (bitStream b).foldl crcBit crcInit

/-- One step of the byte-at-a-time form, on the accumulator alone (R63). -/
def crcShift (acc : Word16) : Word16 :=
  (acc >>> 1) ^^^ (if acc.getLsbD 0 then crcMask else 0x0000#16)

/-- The byte-at-a-time form's work on one byte (R63). -/
def crcByte (acc : Word16) (v : Byte) : Word16 :=
  crcShift (crcShift (crcShift (crcShift (crcShift (crcShift (crcShift (crcShift
    (acc ^^^ v.setWidth 16))))))))

/-- The byte-at-a-time form of the checksum (R63). The machine uses `checksum`. -/
def checksumBytewise (b : Bytes) : Word16 := b.foldl crcByte crcInit

/-- `CRC16` (R60). -/
def execCrc16 (s : State) : Host.Outcome State Fault Refusal :=
  .next (s.respond [] (checksum (inputOperand s)))

end Sys2Proof.Machine
end

