-- ==== Sys2Proof/Machine/Decoder.lean ====
section
/-! DEFINITION. The Frame Decoder (spec/42_frame_decoder.md) and the `DECODE` operation. -/

namespace Sys2Proof.Machine

/-- `decode(f)` (R81): the length check first, then the checksum over every byte, then the payload. -/
def decodeFrame (f : Bytes) : Status × Bytes :=
  if isFrameTooShort f then (.frameTooShort, [])
  else if checksum f ≠ 0x0000#16 then (.checksumMismatch, [])
  else (.ok, framePayload f)

/-- `DECODE` (R92). -/
def execDecode (s : State) : Host.Outcome State Fault Refusal :=
  .next (s.deliver s (decodeFrame (inputOperand s)))

end Sys2Proof.Machine
end

