-- ==== Sys2Proof/Machine/Encoder.lean ====
section
/-! DEFINITION. The Frame Encoder (spec/41_frame_encoder.md) and the `ENCODE` operation. -/

namespace Sys2Proof.Machine

/-- The 21 header bytes (R50, R70). -/
def header (c : Params) (seq : Byte) : Bytes :=
  c.fc.toList ++ [seq] ++ c.dstPan.toList ++ c.dstAddr.toList ++ c.srcAddr.toList

/-- The 24 bytes of the Command Sub-Frame (R54, R74), from a payload of at least 6 bytes. -/
def commandBody (c : Params) (p : Bytes) : Bytes :=
  [c.cmdMarker] ++ slice p 1 2 ++ slice p 2 6
    ++ c.subSrcAddr.toList ++ c.subDstAddr.toList ++ c.subPan.toList

/-- Appends the checksum of all bytes before it, low byte first (R76, R77). -/
def sealFrame (f : Bytes) : Bytes := f ++ le16 (checksum f)

/-- `encode(p, s)` (R67), its checks in the order of R68. -/
def encodeFrame (c : Params) (p : Bytes) (seq : Byte) : Status × Bytes :=
  if isEmptyPayload p then (.emptyPayload, [])
  else if isCommandPayload p then
    if isCommandTooShort p then (.commandTooShort, [])
    else (.ok, sealFrame (header c seq ++ commandBody c p))
  else if isPayloadTooLarge p then (.payloadTooLarge, [])
  else (.ok, sealFrame (header c seq ++ p))

/-- `ENCODE` (R80): with `SeqIn`, never with `SEQ`. -/
def execEncode (s : State) : Host.Outcome State Fault Refusal :=
  .next (s.deliver s (encodeFrame s.params (inputOperand s) (seqOperand s)))

end Sys2Proof.Machine
end

