-- ==== Sys2Proof/Machine/Sequence.lean ====
section
/-! DEFINITION. The operations that change the Sequence Counter (spec/43_sequence_counter.md). -/

namespace Sys2Proof.Machine

/-- `SEQ_INC` (R94). -/
def execSeqInc (s : State) : Host.Outcome State Fault Refusal :=
  .next (s.advanceSeq.respond [] 0x0000#16)

/-- `SEND` (R95): encodes with the counter's value, then advances it (R96); an error leaves it (R97). -/
def execSend (s : State) : Host.Outcome State Fault Refusal :=
  .next (s.deliver s.advanceSeq (encodeFrame s.params (inputOperand s) (counterOperand s)))

end Sys2Proof.Machine
end

