-- ==== Sys2Proof/Machine/Dispatch.lean ====
section
/-! DEFINITION. One arm per operation (R44). -/

namespace Sys2Proof.Machine

/-- The effect of one operation on the block, its operands on the request ports. -/
def exec (i : Instr) (s : State) : Host.Outcome State Fault Refusal :=
  match i with
  | .crc16 => Sys2Proof.Machine.execCrc16 s
  | .encode => Sys2Proof.Machine.execEncode s
  | .decode => Sys2Proof.Machine.execDecode s
  | .seqInc => Sys2Proof.Machine.execSeqInc s
  | .send => Sys2Proof.Machine.execSend s

end Sys2Proof.Machine
end

