-- ==== Sys2Proof/Machine/Step.lean ====
section
/-! DEFINITION. One step: the host's next event taken whole (R36, R38), or nothing when the host sends
nothing (R114). -/

namespace Sys2Proof.Machine

/-- Serves the request on the ports: the selected operation, or the error of a reserved command word, which
reads no operand (R46). -/
def serve (s : State) : Host.Outcome State Fault Refusal :=
  match decodeCmd s.port.cmd with
  | .ok i => exec i s
  | .error _ => .next s.rejectWord

/-- One step of the block. -/
def step (s : State) : Host.Outcome State Fault Refusal :=
  match s.pending with
  | [] => .next s
  | .reset :: rest => .next (s.applyReset rest)
  | .request r :: rest => serve (s.latch r rest)

/-- `s` with a table word as the command word of the host's very next request; `In` and `SeqIn` are those on
the ports (log entry 9). -/
def State.withFetchWord (s : State) (nbits w : Nat) : State :=
  match tableBytes nbits w with
  | [] => s
  | cmd :: _ => s.issue cmd

end Sys2Proof.Machine
end

