-- ==== Sys2Proof/Safety.lean ====
section
/-! DEFINITION. What the claims use: what a response must satisfy against the request it answers, the
invariant built from it, runs, and the ways one state may differ from another in claims that something has no
effect. -/

namespace Sys2Proof.Machine

/-- The payloads that encode: not empty, a `#` payload of at least 6 bytes, any other of at most 233 (R68). -/
def EncodablePayload (p : Bytes) : Prop :=
  p ≠ [] ∧ (p.head? = some 0x23#8 → 6 ≤ p.length) ∧ (p.head? ≠ some 0x23#8 → p.length ≤ 233)

/-- `N`, the length of the payload field an encodable payload gives (R53, R54). -/
def payloadFieldLen (p : Bytes) : Nat := if p.head? = some 0x23#8 then 24 else p.length

/-- What a frame returned for `ENCODE` or `SEND` satisfies: its length (R35, R77), a zero checksum over all of
it and the header constants (R79). -/
def FrameFits (c : Params) (f : Bytes) : Prop :=
  24 ≤ f.length ∧ f.length ≤ 256 ∧ checksum f = 0x0000#16 ∧
  frameControl f = c.fc.toList ∧ frameDstPan f = c.dstPan.toList ∧
  frameDstAddr f = c.dstAddr.toList ∧ frameSrcAddr f = c.srcAddr.toList

/-- What a response to `ENCODE` or `SEND` satisfies. -/
def EncoderFits (c : Params) (r : Response) : Prop :=
  r.val = 0x0000#16 ∧
  ((r.status = .ok ∧ FrameFits c r.out) ∨
    r.status = .emptyPayload ∨ r.status = .commandTooShort ∨ r.status = .payloadTooLarge)

/-- What the response to an operation satisfies, given the constants and the request (R45, R100). -/
def OperationFits (c : Params) (q : Request) (r : Response) : Instr → Prop
  | .crc16 => r = ⟨.ok, [], checksum q.inp⟩
  | .encode => EncoderFits c r ∧ (r.status = .ok → frameSeq r.out = [q.seqIn])
  | .decode =>
      r.val = 0x0000#16 ∧
      ((r.status = .ok ∧ r.out.length + 23 = q.inp.length ∧ checksum q.inp = 0x0000#16) ∨
        (r.status = .frameTooShort ∧ q.inp.length < 23) ∨
        (r.status = .checksumMismatch ∧ checksum q.inp ≠ 0x0000#16))
  | .seqInc => r = ⟨.ok, [], 0x0000#16⟩
  | .send => EncoderFits c r

/-- What a response satisfies: an error carries nothing but its status (R101); the answer to a reserved command
word is `UnrecognizedInputShape` (R46) and to any other word its operation's. -/
def ResponseFits (c : Params) (q : Request) (r : Response) : Prop :=
  (r.status ≠ .ok → r.out = [] ∧ r.val = 0x0000#16) ∧
  match decodeCmd q.cmd with
  | .ok i => OperationFits c q r i
  | .error _ => r.status = .unrecognizedInputShape

/-- The invariant: the response on the ports, if one is defined, fits the request on the ports. -/
def State.Inv (s : State) : Prop :=
  ∀ r, s.response = some r → ResponseFits s.params s.port r

/-- A run of `k` steps that neither faults nor is refused: the claim's notion of a safe run. -/
def State.RunsSafely (s : State) (k : Nat) : Prop :=
  ∃ t : State, Host.Core.run Sys2Proof.core k s = .next t

end Sys2Proof.Machine
end

