-- ==== Sys2Proof/Certificates/Slice0/Obligations.lean ====
section
/-! DEFINITION. The statements for the provers. Each docstring names the rule of spec/ it formalises; where a
clause rests on one of the spec's own decisions (92_eei_decisions.md) or derivations, it says so. -/

open Sys2Proof Sys2Proof.Machine

/-! ## The Checksum Engine -/

/-- R57, R58: the mask has bits 15, 10 and 3 set and no other; one bit step shifts right logically and flips
exactly those bits when input bit xor accumulator bit 0 is 1. -/
def Obligations.CrcBitStepByBits : Prop :=
  crcMask = 0x8408#16 ∧
  ∀ (acc : Word16) (x : Bool) (k : Nat), k < 16 →
    (crcMask.getLsbD k = decide (k = 15 ∨ k = 10 ∨ k = 3)) ∧
    (crcBit acc x).getLsbD k =
      (acc.getLsbD (k + 1) ^^ ((x ^^ acc.getLsbD 0) && decide (k = 15 ∨ k = 10 ∨ k = 3)))

/-- R59, R30: the checksum of no bytes is 0; one more byte at the end is eight bit steps more, bit 0 first and
bit 7 last; no step comes after the last bit, and there are `8 * len(b)` steps in all. -/
def Obligations.ChecksumTakesBytesThenBitsInOrder : Prop :=
  checksum [] = 0x0000#16 ∧
  (∀ (b : Bytes) (v : Byte),
    checksum (b ++ [v]) =
      crcBit (crcBit (crcBit (crcBit (crcBit (crcBit (crcBit (crcBit (checksum b)
        (v.getLsbD 0)) (v.getLsbD 1)) (v.getLsbD 2)) (v.getLsbD 3))
        (v.getLsbD 4)) (v.getLsbD 5)) (v.getLsbD 6)) (v.getLsbD 7)) ∧
  (∀ b : Bytes, checksum b = (bitStream b).foldl crcBit 0x0000#16 ∧
    (bitStream b).length = 8 * b.length)

/-- The byte-at-a-time form gives the same checksum (derived by the spec, 40_checksum.md section 4). -/
def Obligations.BytewiseChecksumAgrees : Prop :=
  ∀ b : Bytes, checksumBytewise b = checksum b

/-- The self-check property: a string followed by its own checksum, low byte first, has checksum 0 (derived by
the spec, 40_checksum.md section 4). -/
def Obligations.ChecksumOfSealedBytesIsZero : Prop :=
  ∀ b : Bytes, checksum (b ++ le16 (checksum b)) = 0x0000#16

/-- Zero bytes before anything, or after a zero result, are invisible (derived by the spec, 40_checksum.md
section 4, items 1 to 3). -/
def Obligations.ZeroBytesInvisibleToChecksum : Prop :=
  (∀ (n : Nat) (b : Bytes), checksum (List.replicate n 0x00#8 ++ b) = checksum b) ∧
  (∀ (n : Nat) (b : Bytes), checksum b = 0x0000#16 →
    checksum (b ++ List.replicate n 0x00#8) = 0x0000#16)

/-- A zero input bit keeps zero at zero and a nonzero accumulator nonzero (derived by the spec, 40_checksum.md
section 4, items 2 and 4). -/
def Obligations.ZeroBitKeepsAccumulatorNonzero : Prop :=
  ∀ acc : Word16, crcBit acc false = 0x0000#16 ↔ acc = 0x0000#16

/-- The checksum is linear over strings of equal length (derived by the spec, 40_checksum.md section 4,
item 5). -/
def Obligations.ChecksumLinear : Prop :=
  ∀ a e : Bytes, a.length = e.length → checksum (xorBytes a e) = checksum a ^^^ checksum e

/-- Every single-bit change of a string with checksum 0 gives it a nonzero checksum (derived by the spec,
40_checksum.md section 4). -/
def Obligations.SingleBitFlipChangesZeroChecksum : Prop :=
  ∀ (f : Bytes) (i k : Nat), checksum f = 0x0000#16 → i < f.length → k < 8 →
    checksum (flipBit f i k) ≠ 0x0000#16

/-! ## The Frame Encoder -/

/-- The layout of R51, R70, R76 and R77, for every encodable payload of either variant. That each of them has a
frame, in particular every command payload of 6 or more bytes whatever its command-code and digit bytes, is
decision D10 of 92_eei_decisions.md (log entry 13, unsafe), with D4 and D5 (log entry 11). There is a frame, of
`21 + N + 2` bytes, at most 256: the header constants around the given sequence byte, then `N` payload bytes,
then the checksum of all bytes before it, low byte first. For a command payload `N = 24` and the frame has 47
bytes; for a plain payload `N = len(p) <= 233` and it has 24 to 256. -/
def Obligations.EncodedFrameLayout : Prop :=
  ∀ (c : Params) (p : Bytes) (seq : Byte), EncodablePayload p →
    ∃ f : Bytes, encodeFrame c p seq = (.ok, f) ∧
      f.length = 21 + payloadFieldLen p + 2 ∧ f.length ≤ 256 ∧
      (p.head? = some 0x23#8 → payloadFieldLen p = 24 ∧ f.length = 47) ∧
      (p.head? ≠ some 0x23#8 →
        payloadFieldLen p = p.length ∧ p.length ≤ 233 ∧ 24 ≤ f.length) ∧
      f.take 21 = c.fc.toList ++ [seq] ++ c.dstPan.toList ++ c.dstAddr.toList ++ c.srcAddr.toList ∧
      f[21 + payloadFieldLen p]? =
        some ((checksum (f.take (21 + payloadFieldLen p))).extractLsb' 0 8) ∧
      f[22 + payloadFieldLen p]? =
        some ((checksum (f.take (21 + payloadFieldLen p))).extractLsb' 8 8)

/-- R53, R72: a plain payload stands in the frame byte for byte, with its own length, whatever its bytes after
the first are. -/
def Obligations.PlainPayloadCopiedVerbatim : Prop :=
  ∀ (c : Params) (p : Bytes) (seq : Byte),
    p ≠ [] → p.head? ≠ some 0x23#8 → p.length ≤ 233 →
    ∃ f : Bytes, encodeFrame c p seq = (.ok, f) ∧ f.length = 23 + p.length ∧
      slice f 21 (21 + p.length) = p

/-- The layout of R54: the Command Sub-Frame's six parts at their frame bytes, the checksum at `[45, 47)`, and no
effect of any input byte beyond index 5. That the encoder answers `OK` for every command-code and digit byte is
decision D10 of 92_eei_decisions.md (log entry 13, unsafe). -/
def Obligations.CommandSubFrameLayout : Prop :=
  ∀ (c : Params) (p : Bytes) (seq : Byte), p.head? = some 0x23#8 → 6 ≤ p.length →
    ∃ f : Bytes, encodeFrame c p seq = (.ok, f) ∧ f.length = 47 ∧
      slice f 21 22 = [c.cmdMarker] ∧
      f[22]? = p[1]? ∧
      slice f 23 27 = slice p 2 6 ∧
      slice f 27 35 = c.subSrcAddr.toList ∧
      slice f 35 43 = c.subDstAddr.toList ∧
      slice f 43 45 = c.subPan.toList ∧
      slice f 45 47 = le16 (checksum (f.take 45)) ∧
      ∀ q : Bytes, encodeFrame c (p.take 6 ++ q) seq = (.ok, f)

/-- R71: the variant is chosen by the first byte alone: in every frame the encoder returns, the payload field is
the Command Sub-Frame if the input's first byte is 0x23 and the input itself if it is any other. -/
def Obligations.VariantChosenByFirstByte : Prop :=
  ∀ (c : Params) (p : Bytes) (seq : Byte) (f : Bytes), encodeFrame c p seq = (.ok, f) →
    (p.head? = some 0x23#8 → framePayload f = [c.cmdMarker] ++ slice p 1 6
      ++ c.subSrcAddr.toList ++ c.subDstAddr.toList ++ c.subPan.toList) ∧
    (p.head? ≠ some 0x23#8 → framePayload f = p)

/-- R73: a plain payload of more than 233 bytes, and no other payload, is refused with `PayloadTooLarge` and no
frame; one of exactly 233 gives a frame of 256 bytes. -/
def Obligations.PayloadTooLargeExactly : Prop :=
  ∀ (c : Params) (p : Bytes) (seq : Byte),
    (p.head? ≠ some 0x23#8 → 233 < p.length →
      encodeFrame c p seq = (.payloadTooLarge, [])) ∧
    ((encodeFrame c p seq).1 = .payloadTooLarge → p.head? ≠ some 0x23#8 ∧ 21 + p.length + 2 > 256) ∧
    (p.head? ≠ some 0x23#8 → p.length = 233 →
      ∃ f, encodeFrame c p seq = (.ok, f) ∧ f.length = 256)

/-- The encoder's two decided errors (decisions D4, D5 and, for their order, D7 of 92_eei_decisions.md), each
exactly when its cause holds and with no frame; and it succeeds exactly on the encodable payloads, whatever a
command payload's command-code and digit bytes (decision D10, log entry 13). -/
def Obligations.EncoderErrorCauses : Prop :=
  ∀ (c : Params) (p : Bytes) (seq : Byte),
    (encodeFrame c p seq = (.emptyPayload, []) ↔ p = []) ∧
    (encodeFrame c p seq = (.commandTooShort, []) ↔ p.head? = some 0x23#8 ∧ p.length < 6) ∧
    ((encodeFrame c p seq).1 = .ok ↔ EncodablePayload p) ∧
    ((encodeFrame c p seq).1 ≠ .ok → (encodeFrame c p seq).2 = [])

/-- Every frame the encoder returns has checksum 0, a payload field that is not empty, and header bytes that do
not depend on the payload or, but for byte 2, on the sequence number (derived by the spec, 41_frame_encoder.md
section 4). -/
def Obligations.EncodedFrameValid : Prop :=
  ∀ (c : Params) (p p' : Bytes) (seq seq' : Byte) (f f' : Bytes),
    encodeFrame c p seq = (.ok, f) → encodeFrame c p' seq' = (.ok, f') →
    checksum f = 0x0000#16 ∧ framePayload f ≠ [] ∧
    slice f 0 2 = slice f' 0 2 ∧ slice f 3 21 = slice f' 3 21

/-! ## The Frame Decoder -/

/-- R84, R85, R88: for every byte string exactly one of three results: too short; long enough with a nonzero
checksum over all its bytes; or the bytes between the header and the checksum field, `len - 23` of them. -/
def Obligations.DecoderOutcome : Prop :=
  ∀ f : Bytes,
    (f.length < 23 → decodeFrame f = (.frameTooShort, [])) ∧
    (23 ≤ f.length → checksum f ≠ 0x0000#16 → decodeFrame f = (.checksumMismatch, [])) ∧
    (23 ≤ f.length → checksum f = 0x0000#16 →
      ∃ p : Bytes, decodeFrame f = (.ok, p) ∧ p.length = f.length - 23 ∧
        ∀ k : Nat, k < f.length - 23 → p[k]? = f[21 + k]?)

/-- R83: the decoder compares no header byte: two passing frames of one length that agree from byte 21 on
decode alike, whatever their first 21 bytes; and the `DECODE` operation's response does not depend on `SEQ` or
on the constants. -/
def Obligations.DecoderIgnoresHeaderAndCounter : Prop :=
  (∀ h h' tail : Bytes, h.length = 21 → h'.length = 21 → 2 ≤ tail.length →
    checksum (h ++ tail) = 0x0000#16 → checksum (h' ++ tail) = 0x0000#16 →
    decodeFrame (h ++ tail) = (.ok, tail.take (tail.length - 2)) ∧
    decodeFrame (h' ++ tail) = (.ok, tail.take (tail.length - 2))) ∧
  (∀ (s : State) (seq : Byte) (c : Params),
    ∃ t, exec .decode s = .next t ∧
      exec .decode { s with seq := seq, params := c } = .next { t with seq := seq, params := c })

/-- The decoder gives back the payload field of every encoded frame (derived by the spec, 41_frame_encoder.md
section 4 and 42_frame_decoder.md section 4), the same for both variants; so a frame that carries a Command
Sub-Frame decodes to its 24 sub-frame bytes, beginning with `CMD_MARKER`, not to the input (R86). That every
command payload of 6 or more bytes has a frame is decision D10 of 92_eei_decisions.md (log entry 13, unsafe). -/
def Obligations.DecoderTreatsVariantsAlike : Prop :=
  (∀ (c : Params) (p : Bytes) (seq : Byte) (f : Bytes), encodeFrame c p seq = (.ok, f) →
    decodeFrame f = (.ok, slice f 21 (f.length - 2))) ∧
  (∀ (c : Params) (p : Bytes) (seq : Byte), p.head? = some 0x23#8 → 6 ≤ p.length →
    ∃ f b : Bytes, encodeFrame c p seq = (.ok, f) ∧ decodeFrame f = (.ok, b) ∧ b.length = 24 ∧
      b = [c.cmdMarker] ++ slice p 1 6
        ++ c.subSrcAddr.toList ++ c.subDstAddr.toList ++ c.subPan.toList)

/-- Round trip on the machine: a plain payload that `ENCODE` frames, `DECODE` gives back from the response's
frame, whatever state the decoding block is in (derived by the spec, 42_frame_decoder.md section 4). -/
def Obligations.EncodeThenDecodeReturnsPlainPayload : Prop :=
  ∀ s : State, s.port.inp ≠ [] → s.port.inp.head? ≠ some 0x23#8 → s.port.inp.length ≤ 233 →
    ∃ (t : State) (f : Bytes), exec .encode s = .next t ∧ t.response = some ⟨.ok, f, 0x0000#16⟩ ∧
      ∀ u : State, u.port.inp = f →
        exec .decode u = .next { u with response := some ⟨.ok, s.port.inp, 0x0000#16⟩ }

/-- Flipping any one bit of any byte of an encoded frame, the checksum's bytes included, makes the decoder
answer `ChecksumMismatch` (derived by the spec, 42_frame_decoder.md section 4). -/
def Obligations.CorruptedFrameRejected : Prop :=
  ∀ (c : Params) (p : Bytes) (seq : Byte) (f : Bytes) (i k : Nat),
    encodeFrame c p seq = (.ok, f) → i < f.length → k < 8 →
    decodeFrame (flipBit f i k) = (.checksumMismatch, [])

/-- What the decoder must keep accepting: every all-zero string of 23 or more bytes, and a passing frame with
zero bytes appended, whose payload then runs into the old checksum field (derived by the spec,
42_frame_decoder.md section 4). -/
def Obligations.ZeroPaddedFramesAccepted : Prop :=
  (∀ n : Nat, 23 ≤ n →
    decodeFrame (List.replicate n 0x00#8) = (.ok, List.replicate (n - 23) 0x00#8)) ∧
  (∀ (f p : Bytes) (k : Nat), 1 ≤ k → decodeFrame f = (.ok, p) →
    decodeFrame (f ++ List.replicate k 0x00#8) =
      (.ok, slice (f ++ List.replicate k 0x00#8) 21 (f.length + k - 2)))

/-! ## The operations -/

/-- `CRC16` responds with the checksum of `In` and changes nothing else (the operation is decision D1 of
92_eei_decisions.md). -/
def Obligations.Crc16Completes : Prop :=
  ∀ s : State, exec .crc16 s = .next { s with response := some ⟨.ok, [], checksum s.port.inp⟩ }

/-- `ENCODE` of an encodable payload responds with the frame for `SeqIn` and changes nothing else, `SEQ`
included (which payloads encode rests on decisions D4, D5 and D10 of 92_eei_decisions.md). -/
def Obligations.EncodeCompletes : Prop :=
  ∀ s : State, EncodablePayload s.port.inp →
    ∃ f : Bytes, encodeFrame s.params s.port.inp s.port.seqIn = (.ok, f) ∧
      f.length = 23 + payloadFieldLen s.port.inp ∧
      exec .encode s = .next { s with response := some ⟨.ok, f, 0x0000#16⟩ }

/-- R92: `DECODE` of a frame of at least 23 bytes with checksum 0 responds with the bytes between header and
checksum and changes nothing else; of any other string it responds `FrameTooShort`, or else
`ChecksumMismatch`, with no output. -/
def Obligations.DecodeCompletes : Prop :=
  cmdWord .decode = 0x02#8 ∧
  ∀ s : State,
    (23 ≤ s.port.inp.length → checksum s.port.inp = 0x0000#16 →
      exec .decode s = .next { s with
        response := some ⟨.ok, slice s.port.inp 21 (s.port.inp.length - 2), 0x0000#16⟩ }) ∧
    (s.port.inp.length < 23 →
      exec .decode s = .next { s with response := some ⟨.frameTooShort, [], 0x0000#16⟩ }) ∧
    (23 ≤ s.port.inp.length → checksum s.port.inp ≠ 0x0000#16 →
      exec .decode s = .next { s with response := some ⟨.checksumMismatch, [], 0x0000#16⟩ })

/-- `SEQ_INC` advances the counter by one, modulo 256, responds with no output, and changes nothing else (the
operation is decision D1 of 92_eei_decisions.md). -/
def Obligations.SeqIncCompletes : Prop :=
  ∀ s : State, ∃ v : Byte, v.toNat = (s.seq.toNat + 1) % 256 ∧
    exec .seqInc s = .next { s with seq := v, response := some ⟨.ok, [], 0x0000#16⟩ }

/-- `SEND` of an encodable payload responds with the frame for the counter's value and advances the counter by
one, modulo 256, changing nothing else (decisions D1, D4, D5, D10 and D20 of 92_eei_decisions.md). -/
def Obligations.SendCompletes : Prop :=
  ∀ s : State, EncodablePayload s.port.inp →
    ∃ (f : Bytes) (v : Byte), encodeFrame s.params s.port.inp s.seq = (.ok, f) ∧
      f.length = 23 + payloadFieldLen s.port.inp ∧ v.toNat = (s.seq.toNat + 1) % 256 ∧
      exec .send s = .next { s with seq := v, response := some ⟨.ok, f, 0x0000#16⟩ }

/-- R32, R96: the frame a successful `SEND` responds with carries at offset 2 the counter's value from before
the increment, and one that `ENCODE` responds with carries `SeqIn` there, untransformed. -/
def Obligations.FrameCarriesSequenceValueUsed : Prop :=
  (∀ (s t : State) (f : Bytes) (v : Word16), exec .send s = .next t →
    t.response = some ⟨.ok, f, v⟩ → f[2]? = some s.seq ∧ t.seq.toNat = (s.seq.toNat + 1) % 256) ∧
  (∀ (s t : State) (f : Bytes) (v : Word16), exec .encode s = .next t →
    t.response = some ⟨.ok, f, v⟩ → f[2]? = some s.port.seqIn ∧ t.seq = s.seq)

/-- `ENCODE` and `SEND` end in an error exactly as the encoder does, with the status alone and no effect, the
counter unchanged (decisions D2, D4, D5 and D6 of 92_eei_decisions.md). -/
def Obligations.EncodeAndSendRaise : Prop :=
  ∀ (i : Instr) (s : State), (i = .encode ∨ i = .send) →
    (s.port.inp = [] →
      exec i s = .next { s with response := some ⟨.emptyPayload, [], 0x0000#16⟩ }) ∧
    (s.port.inp.head? = some 0x23#8 → s.port.inp.length < 6 →
      exec i s = .next { s with response := some ⟨.commandTooShort, [], 0x0000#16⟩ }) ∧
    (s.port.inp.head? ≠ some 0x23#8 → 233 < s.port.inp.length →
      exec i s = .next { s with response := some ⟨.payloadTooLarge, [], 0x0000#16⟩ })

/-- `SEND` responds as `ENCODE` does when the host supplies the counter's value as `SeqIn` (derived: `SEND` is
the encoder with `SEQ`, decision D20 of 92_eei_decisions.md). -/
def Obligations.SendRespondsAsEncodeWithCounter : Prop :=
  ∀ s : State, ∃ t u : State, exec .send s = .next t ∧
    exec .encode { s with port := { s.port with seqIn := s.seq } } = .next u ∧
    t.response = u.response

/-- The frame of all five operations: the request ports, the input string among them (R28), the configuration
(R18, and R17 with decision D9 of 92_eei_decisions.md) and, but for `SEQ_INC` and `SEND`, the counter (R15) are as
before; a response is defined (decision D1; that the ports keep it is log entry 4). The host's further events,
unchanged too, are the model's own field (log entry 3, DESIGN CHOICE). -/
def Obligations.OperationFrame : Prop :=
  ∀ (i : Instr) (s t : State), exec i s = .next t →
    t.port = s.port ∧ t.params = s.params ∧ t.debug = s.debug ∧ t.pending = s.pending ∧
    (∃ r, t.response = some r) ∧
    (i = .crc16 ∨ i = .encode ∨ i = .decode → t.seq = s.seq)

/-- The three operations without state are idempotent: issued again with the same operands, each gives the same
response and the same state (derived by the spec, 20_memory.md section 3). -/
def Obligations.StatelessOperationsIdempotent : Prop :=
  ∀ (i : Instr) (s t : State), i = .crc16 ∨ i = .encode ∨ i = .decode →
    exec i s = .next t → exec i t = .next t

/-- An operand an operation ignores has no effect on its response or on the counter (decision D1 of
92_eei_decisions.md, 10_state.md section 6): `SeqIn` but for `ENCODE`; `In` for `SEQ_INC`; `SEQ` for `CRC16`,
`ENCODE` and `DECODE`. -/
def Obligations.IgnoredOperandsHaveNoEffect : Prop :=
  ∀ (i : Instr) (s : State), ∃ t, exec i s = .next t ∧
    (i ≠ .encode → ∀ v : Byte, ∃ u,
      exec i { s with port := { s.port with seqIn := v } } = .next u ∧
        u.response = t.response ∧ u.seq = t.seq) ∧
    (i = .seqInc → ∀ b : Bytes, ∃ u,
      exec i { s with port := { s.port with inp := b } } = .next u ∧
        u.response = t.response ∧ u.seq = t.seq) ∧
    (i = .crc16 ∨ i = .encode ∨ i = .decode → ∀ v : Byte, ∃ u,
      exec i { s with seq := v } = .next u ∧ u.response = t.response ∧ u.seq = v)

/-! ## The command word and the step -/

/-- The decoder reads exactly the five assigned words, and reads each operation's encoding back with the bytes
after it (the command word is decision D1 of 92_eei_decisions.md). -/
def Obligations.CommandWordRoundTrip : Prop :=
  (∀ (i : Instr) (rest : Bytes), decode (encode i ++ rest) = .ok (i, rest)) ∧
  (∀ (bytes rest : Bytes) (i : Instr), decode bytes = .ok (i, rest) → bytes = encode i ++ rest) ∧
  (∀ w : Byte, (∃ i, decodeCmd w = .ok i) ↔ cmdWellFormed w = true)

/-- A few command words, bit by bit from the spec's table (decision D1 of 92_eei_decisions.md). -/
def Obligations.CommandWordsDecodeAsListed : Prop :=
  decodeTableWord 8 0b00000000 = some .crc16 ∧ decodeTableWord 8 0b00000001 = some .encode ∧
  decodeTableWord 8 0b00000010 = some .decode ∧ decodeTableWord 8 0b00000011 = some .seqInc ∧
  decodeTableWord 8 0b00000100 = some .send ∧ decodeTableWord 8 0b00000101 = none ∧
  decodeTableWord 8 0b00001000 = none

/-- A step with a request next puts it on the ports and runs exactly the operation its command word decodes to
(one operation a step: decision D12 of 92_eei_decisions.md; the list of events is the model's own, log
entry 3). -/
def Obligations.StepRunsDecodedOperation : Prop :=
  ∀ (s : State) (q : Request) (rest : List HostEvent) (i : Instr),
    s.pending = .request q :: rest → decodeCmd q.cmd = .ok i →
    step s = exec i { s with port := q, pending := rest }

/-- A command word with `OP` 5 to 7 or a nonzero reserved field gets the status `UnrecognizedInputShape` and
has no other effect, whatever the operands (decision D11 of 92_eei_decisions.md). -/
def Obligations.ReservedWordAnswered : Prop :=
  ∀ (s : State) (q : Request) (rest : List HostEvent),
    s.pending = .request q :: rest → (5 ≤ q.cmd.toNat % 8 ∨ q.cmd.toNat / 8 ≠ 0) →
    step s = .next { s with port := q, pending := rest,
                            response := some ⟨.unrecognizedInputShape, [], 0x0000#16⟩ }

/-- With no event from the host a step changes nothing; the reset event sets `SEQ` to 0x00, leaves no response
defined and changes nothing else (decisions D3, D18 and D19 of 92_eei_decisions.md; the list of events is the
model's own, log entry 3). -/
def Obligations.IdleAndResetSteps : Prop :=
  ∀ s : State,
    (s.pending = [] → step s = .next s) ∧
    (∀ rest, s.pending = .reset :: rest →
      step s = .next { s with seq := 0x00#8, response := none, pending := rest })

/-- After construction, which is what reset is, `SEQ` is 0x00 and no response is defined (decisions D3 and D18 of
92_eei_decisions.md); the configuration is the one supplied; the ports' values and the empty list of events are
the model's choice (log entries 3 and 4). -/
def Obligations.ResetState : Prop :=
  State.reset = State.construct Config.params Config.debug ∧
  ∀ (c : Params) (d : Bool),
    (State.construct c d).seq = 0x00#8 ∧ (State.construct c d).response = none ∧
    (State.construct c d).params = c ∧ (State.construct c d).debug = d ∧
    (State.construct c d).port = ⟨0x00#8, [], 0x00#8⟩ ∧ (State.construct c d).pending = []

/-! ## The whole machine -/

/-- Every step keeps the invariant: a response on the ports fits the request on the ports (what a response must
satisfy rests on the spec's rules and on decisions D1, D2 and D11 of 92_eei_decisions.md). -/
def Obligations.StepKeepsResponseInvariant : Prop :=
  ∀ s t : State, s.Inv → step s = .next t → t.Inv

/-- The invariant holds at reset and after construction with any constants, where no response is defined. -/
def Obligations.ResetMeetsResponseInvariant : Prop :=
  State.reset.Inv ∧ ∀ (c : Params) (d : Bool), (State.construct c d).Inv

/-- Every run of any length from any state goes on: no operation on any input stops the block (derived,
93_implementation_defined.md section 1). -/
def Obligations.BlockNeverStops : Prop :=
  ∀ (s : State) (k : Nat), s.RunsSafely k

/-- No run changes the eight constants or `DEBUG` (decision D9 of 92_eei_decisions.md, 10_state.md
section 3). -/
def Obligations.ConfigurationNeverChanges : Prop :=
  ∀ (k : Nat) (s t : State), Host.Core.run Sys2Proof.core k s = .next t →
    t.params = s.params ∧ t.debug = s.debug

/-- R18: `DEBUG` has no effect: with the other value of the flag a run of any length ends in the same state but
for the flag. -/
def Obligations.DebugHasNoEffect : Prop :=
  ∀ (k : Nat) (s : State) (d : Bool), ∃ t : State,
    Host.Core.run Sys2Proof.core k s = .next t ∧
    Host.Core.run Sys2Proof.core k ({ s with debug := d } : State) =
      .next ({ t with debug := d } : State)

/-- The only writes to the counter (R15): one increment modulo 256 (R93), by a `SEQ_INC` or by a `SEND` that
responds `OK`, each of which increments, the wrap raising no error; and the reset event. Any other step leaves it.
The words 0x03 and 0x04 are decision D1 of 92_eei_decisions.md (log entry 14), that a failing `SEND` leaves the
counter is D6 (log entry 12, unsafe), the reset value 0x00 is D3 (log entry 2, unsafe), and the idle step and the
list of events are the model's own (log entry 3). -/
def Obligations.CounterChangesOnlyAsStated : Prop :=
  ∀ (s t : State), step s = .next t →
    (∀ q rest, s.pending = .request q :: rest →
      ((q.cmd = 0x03#8 ∨ (q.cmd = 0x04#8 ∧ ∃ f v, t.response = some ⟨.ok, f, v⟩)) →
        t.seq.toNat = (s.seq.toNat + 1) % 256) ∧
      (q.cmd = 0x03#8 → t.response = some ⟨.ok, [], 0x0000#16⟩) ∧
      (¬ (q.cmd = 0x03#8 ∨ (q.cmd = 0x04#8 ∧ ∃ f v, t.response = some ⟨.ok, f, v⟩)) →
        t.seq = s.seq)) ∧
    (∀ rest, s.pending = .reset :: rest → t.seq = 0x00#8) ∧
    (s.pending = [] → t.seq = s.seq)

/-- No operation reads the last response or what the last request left on the ports (decision D15 of
92_eei_decisions.md, 10_state.md section 4): a step that serves a request is the same whatever they were. -/
def Obligations.EarlierResponseUnread : Prop :=
  ∀ (s : State) (q q' : Request) (rest : List HostEvent) (r : Option Response),
    s.pending = .request q :: rest → step { s with port := q', response := r } = step s

/-- R102: after an operation that ends in an error, the next operation ends as if the failed one had not been
issued. (The two operations stand in the list of events, the form log entry 3 gives the host's order.) -/
def Obligations.FailedOperationLeavesNoTrace : Prop :=
  ∀ (s t : State) (q q' : Request) (rest : List HostEvent) (r : Response),
    s.pending = .request q :: .request q' :: rest → step s = .next t →
    t.response = some r → r.status ≠ .ok →
    step t = step { s with pending := .request q' :: rest }

/-- From a counter value, a run of `SEND`s of encodable payloads stamps its `k`-th frame (from 0) with that
value plus `k`, modulo 256, and advances the counter once each; 256 of them bring it back (derived by the spec,
43_sequence_counter.md section 4). `SEND` and its word are decisions D1 and D20 of 92_eei_decisions.md, and which
payloads encode rests on D4, D5 and D10 (log entries 11, 13 and 14). -/
def Obligations.ConsecutiveSendsNumberFrames : Prop :=
  ∀ (s : State) (payloads : List Bytes) (rest : List HostEvent) (v : Byte),
    (∀ p ∈ payloads, EncodablePayload p) →
    s.pending = payloads.map (fun p => HostEvent.request ⟨0x04#8, p, v⟩) ++ rest →
    (∀ k : Nat, k < payloads.length → ∃ (t : State) (f : Bytes),
      Host.Core.run Sys2Proof.core (k + 1) s = .next t ∧
      t.response = some ⟨.ok, f, 0x0000#16⟩ ∧
      f[2]? = some (BitVec.ofNat 8 (s.seq.toNat + k)) ∧
      t.seq.toNat = (s.seq.toNat + k + 1) % 256) ∧
    (payloads.length = 256 → ∃ t : State,
      Host.Core.run Sys2Proof.core 256 s = .next t ∧ t.seq = s.seq)

/-- `n` `SEQ_INC` in a row advance the counter by `n` modulo 256, so 256 leave it where it started (derived;
43_sequence_counter.md section 2, corner cases; decision D1). -/
def Obligations.ConsecutiveIncrements : Prop :=
  ∀ (s : State) (n : Nat) (b : Bytes) (v : Byte) (rest : List HostEvent),
    s.pending = List.replicate n (HostEvent.request ⟨0x03#8, b, v⟩) ++ rest →
    ∃ t : State, Host.Core.run Sys2Proof.core n s = .next t ∧
      t.seq.toNat = (s.seq.toNat + n) % 256 ∧ t.params = s.params ∧ t.pending = rest
end

