-- ==== Sys2Proof/Laws/Checksum.lean ====
section
/-! SUPPORT. What the Checksum Engine's fold does to concatenations and sums. -/

namespace Sys2Proof.Machine

@[simp] theorem bitStream_nil : bitStream [] = [] := rfl

@[simp] theorem bitStream_cons (v : Byte) (b : Bytes) :
    bitStream (v :: b) = byteBits v ++ bitStream b := rfl

@[simp] theorem bitStream_append (a b : Bytes) :
    bitStream (a ++ b) = bitStream a ++ bitStream b := List.flatMap_append

/-- After `a`, the engine goes on over `b` from `checksum a`. -/
theorem checksum_append (a b : Bytes) :
    checksum (a ++ b) = (bitStream b).foldl crcBit (checksum a) := by
  simp [checksum, List.foldl_append]

/-- A bit step is linear over exclusive or. -/
theorem crcBit_xor (a e : Word16) (x y : Bool) :
    crcBit (a ^^^ e) (x ^^ y) = crcBit a x ^^^ crcBit e y := by
  simp only [crcBit, BitVec.getLsbD_xor, BitVec.ushiftRight_xor_distrib]
  generalize a.getLsbD 0 = p, e.getLsbD 0 = q, a >>> 1 = u, e >>> 1 = w
  have hmm : u ^^^ crcMask ^^^ (w ^^^ crcMask) = u ^^^ w := by
    rw [BitVec.xor_comm w, ← BitVec.xor_assoc, BitVec.xor_assoc u]; simp
  have hml : u ^^^ crcMask ^^^ w = u ^^^ w ^^^ crcMask := by
    rw [BitVec.xor_assoc, BitVec.xor_comm crcMask, ← BitVec.xor_assoc]
  have hmr : u ^^^ (w ^^^ crcMask) = u ^^^ w ^^^ crcMask := (BitVec.xor_assoc u w crcMask).symm
  cases x <;> cases y <;> cases p <;> cases q <;> simp [hmm, hml, hmr]

end Sys2Proof.Machine
end

