-- ==== Sys2Proof/Laws/State.lean ====
section
/-! SUPPORT. One lemma per field of `State` per operation of Machine/Ops.lean, so that no proof unfolds a record
update; and what `deliver` can do. -/

namespace Sys2Proof.Machine

@[simp] theorem State.latch_seq (s : State) (r : Request) (rest : List HostEvent) :
    (s.latch r rest).seq = s.seq := rfl
@[simp] theorem State.latch_params (s : State) (r : Request) (rest : List HostEvent) :
    (s.latch r rest).params = s.params := rfl
@[simp] theorem State.latch_debug (s : State) (r : Request) (rest : List HostEvent) :
    (s.latch r rest).debug = s.debug := rfl
@[simp] theorem State.latch_port (s : State) (r : Request) (rest : List HostEvent) :
    (s.latch r rest).port = r := rfl
@[simp] theorem State.latch_pending (s : State) (r : Request) (rest : List HostEvent) :
    (s.latch r rest).pending = rest := rfl
@[simp] theorem State.latch_response (s : State) (r : Request) (rest : List HostEvent) :
    (s.latch r rest).response = s.response := rfl

@[simp] theorem State.respond_seq (s : State) (out : Bytes) (val : Word16) :
    (s.respond out val).seq = s.seq := rfl
@[simp] theorem State.respond_params (s : State) (out : Bytes) (val : Word16) :
    (s.respond out val).params = s.params := rfl
@[simp] theorem State.respond_debug (s : State) (out : Bytes) (val : Word16) :
    (s.respond out val).debug = s.debug := rfl
@[simp] theorem State.respond_port (s : State) (out : Bytes) (val : Word16) :
    (s.respond out val).port = s.port := rfl
@[simp] theorem State.respond_pending (s : State) (out : Bytes) (val : Word16) :
    (s.respond out val).pending = s.pending := rfl
@[simp] theorem State.respond_response (s : State) (out : Bytes) (val : Word16) :
    (s.respond out val).response = some ⟨.ok, out, val⟩ := rfl

@[simp] theorem State.raise_seq (s : State) (e : Status) :
    (s.raise e).seq = s.seq := rfl
@[simp] theorem State.raise_params (s : State) (e : Status) :
    (s.raise e).params = s.params := rfl
@[simp] theorem State.raise_debug (s : State) (e : Status) :
    (s.raise e).debug = s.debug := rfl
@[simp] theorem State.raise_port (s : State) (e : Status) :
    (s.raise e).port = s.port := rfl
@[simp] theorem State.raise_pending (s : State) (e : Status) :
    (s.raise e).pending = s.pending := rfl
@[simp] theorem State.raise_response (s : State) (e : Status) :
    (s.raise e).response = some ⟨e, [], 0x0000#16⟩ := rfl

@[simp] theorem State.advanceSeq_seq (s : State) :
    s.advanceSeq.seq = nextSeq s.seq := rfl
@[simp] theorem State.advanceSeq_params (s : State) :
    s.advanceSeq.params = s.params := rfl
@[simp] theorem State.advanceSeq_debug (s : State) :
    s.advanceSeq.debug = s.debug := rfl
@[simp] theorem State.advanceSeq_port (s : State) :
    s.advanceSeq.port = s.port := rfl
@[simp] theorem State.advanceSeq_pending (s : State) :
    s.advanceSeq.pending = s.pending := rfl
@[simp] theorem State.advanceSeq_response (s : State) :
    s.advanceSeq.response = s.response := rfl

@[simp] theorem State.applyReset_seq (s : State) (rest : List HostEvent) :
    (s.applyReset rest).seq = 0x00#8 := rfl
@[simp] theorem State.applyReset_params (s : State) (rest : List HostEvent) :
    (s.applyReset rest).params = s.params := rfl
@[simp] theorem State.applyReset_debug (s : State) (rest : List HostEvent) :
    (s.applyReset rest).debug = s.debug := rfl
@[simp] theorem State.applyReset_port (s : State) (rest : List HostEvent) :
    (s.applyReset rest).port = s.port := rfl
@[simp] theorem State.applyReset_pending (s : State) (rest : List HostEvent) :
    (s.applyReset rest).pending = rest := rfl
@[simp] theorem State.applyReset_response (s : State) (rest : List HostEvent) :
    (s.applyReset rest).response = none := rfl

@[simp] theorem State.rejectWord_seq (s : State) :
    s.rejectWord.seq = s.seq := rfl
@[simp] theorem State.rejectWord_params (s : State) :
    s.rejectWord.params = s.params := rfl
@[simp] theorem State.rejectWord_debug (s : State) :
    s.rejectWord.debug = s.debug := rfl
@[simp] theorem State.rejectWord_port (s : State) :
    s.rejectWord.port = s.port := rfl
@[simp] theorem State.rejectWord_pending (s : State) :
    s.rejectWord.pending = s.pending := rfl
@[simp] theorem State.rejectWord_response (s : State) :
    s.rejectWord.response = some ⟨.unrecognizedInputShape, [], 0x0000#16⟩ := rfl

@[simp] theorem State.issue_seq (s : State) (cmd : Byte) :
    (s.issue cmd).seq = s.seq := rfl
@[simp] theorem State.issue_params (s : State) (cmd : Byte) :
    (s.issue cmd).params = s.params := rfl
@[simp] theorem State.issue_debug (s : State) (cmd : Byte) :
    (s.issue cmd).debug = s.debug := rfl
@[simp] theorem State.issue_port (s : State) (cmd : Byte) :
    (s.issue cmd).port = s.port := rfl
@[simp] theorem State.issue_pending (s : State) (cmd : Byte) :
    (s.issue cmd).pending = .request ⟨cmd, s.port.inp, s.port.seqIn⟩ :: s.pending := rfl
@[simp] theorem State.issue_response (s : State) (cmd : Byte) :
    (s.issue cmd).response = s.response := rfl

/-- A successful result is the done state's response. -/
theorem State.deliver_of_ok {s done : State} {result : Status × Bytes} (h : result.1 = .ok) :
    s.deliver done result = done.respond result.2 0x0000#16 := if_pos h

/-- A failed result raises its status from the state before the operation. -/
theorem State.deliver_of_error {s done : State} {result : Status × Bytes} (h : result.1 ≠ .ok) :
    s.deliver done result = s.raise result.1 := if_neg h

/-- The counter after one increment, as a number (R93). -/
theorem nextSeq_toNat (v : Byte) : (nextSeq v).toNat = (v.toNat + 1) % 256 := by
  simp [nextSeq, BitVec.toNat_add]

end Sys2Proof.Machine
end

