-- ==== Sys2Proof/Laws/Frame.lean ====
section
/-! SUPPORT. Lengths of the encoder's parts, and everything `encodeFrame` and `decodeFrame` can answer. -/

namespace Sys2Proof.Machine

/-- The trigger byte's value (R6). -/
theorem cmdTrigger_eq : cmdTrigger = 0x23#8 := rfl

@[simp] theorem slice_length (b : Bytes) (i j : Nat) :
    (slice b i j).length = min (j - i) (b.length - i) := by
  simp [slice]

/-- A slice that ends within the first of two strings is a slice of it. -/
theorem slice_append_left {a b : Bytes} {i j : Nat} (h : j ≤ a.length) :
    slice (a ++ b) i j = slice a i j := by
  unfold slice
  rcases Nat.lt_or_ge i a.length with hi | hi
  · rw [List.drop_append_of_le_length (by omega), List.take_append_of_le_length (by simp; omega)]
  · have h0 : j - i = 0 := by omega
    simp [h0]

/-- A slice that begins after the first of two strings is a slice of the second. -/
theorem slice_append_right {a b : Bytes} {i j : Nat} (h : a.length ≤ i) :
    slice (a ++ b) i j = slice b (i - a.length) (j - a.length) := by
  unfold slice
  rw [List.drop_append, List.drop_eq_nil_of_le h, List.nil_append]
  congr 1; omega

@[simp] theorem le16_length (v : Word16) : (le16 v).length = 2 := rfl

@[simp] theorem header_length (c : Params) (seq : Byte) : (header c seq).length = 21 := by
  simp [header]

theorem commandBody_length (c : Params) {p : Bytes} (h : 6 ≤ p.length) :
    (commandBody c p).length = 24 := by
  simp [commandBody]; omega

@[simp] theorem sealFrame_length (f : Bytes) : (sealFrame f).length = f.length + 2 := by
  simp [sealFrame]

/-- Everything the encoder can answer (R67). -/
theorem encodeFrame_cases (c : Params) (p : Bytes) (seq : Byte) :
    (p.length = 0 ∧ encodeFrame c p seq = (.emptyPayload, [])) ∨
    (p.head? = some 0x23#8 ∧ p.length < 6 ∧ encodeFrame c p seq = (.commandTooShort, [])) ∨
    (p.head? = some 0x23#8 ∧ 6 ≤ p.length ∧
      encodeFrame c p seq = (.ok, sealFrame (header c seq ++ commandBody c p))) ∨
    (p.length ≠ 0 ∧ p.head? ≠ some 0x23#8 ∧ 233 < p.length ∧
      encodeFrame c p seq = (.payloadTooLarge, [])) ∨
    (p.length ≠ 0 ∧ p.head? ≠ some 0x23#8 ∧ p.length ≤ 233 ∧
      encodeFrame c p seq = (.ok, sealFrame (header c seq ++ p))) := by
  rw [← cmdTrigger_eq]
  unfold encodeFrame
  by_cases h0 : p.length = 0
  · simp [isEmptyPayload, h0]
  by_cases hc : p.head? = some cmdTrigger
  · by_cases h6 : p.length < 6
    · simp [isEmptyPayload, isCommandPayload, isCommandTooShort, cmdInputRead, h0, hc, h6]
    · simp [isEmptyPayload, isCommandPayload, isCommandTooShort, cmdInputRead, h0, hc, h6]
      omega
  · have hl : isPayloadTooLarge p = decide (233 < p.length) := by
      simp only [isPayloadTooLarge, headerLen, checksumLen, frameCapacity, gt_iff_lt,
        decide_eq_decide]
      omega
    by_cases h : 233 < p.length
    · simp [isEmptyPayload, isCommandPayload, hl, h0, hc, h]
    · simp [isEmptyPayload, isCommandPayload, hl, h0, hc, h]
      omega

/-- Everything the decoder can answer (R81). -/
theorem decodeFrame_cases (f : Bytes) :
    (f.length < 23 ∧ decodeFrame f = (.frameTooShort, [])) ∨
    (23 ≤ f.length ∧ checksum f ≠ 0x0000#16 ∧ decodeFrame f = (.checksumMismatch, [])) ∨
    (23 ≤ f.length ∧ checksum f = 0x0000#16 ∧ decodeFrame f = (.ok, framePayload f)) := by
  unfold decodeFrame
  by_cases h : f.length < 23
  · simp [isFrameTooShort, minFrameLen, h]
  · by_cases hc : checksum f = 0x0000#16 <;> simp [isFrameTooShort, minFrameLen, h, hc] <;> omega

end Sys2Proof.Machine
end

