-- ==== Sys2Proof/Laws/PerInstr.lean ====
section
/-! SUPPORT. Family `CommandWord`: for each operation, its encoding is one well-formed command word whose
reserved field is clear and whose operation field is the operation's (R43, R44). -/

namespace Sys2Proof.Laws.CommandWord

/-- What holds of each operation's command word. -/
def Statement (i : Instr) : Prop :=
  encode i = [cmdWord i] ∧ cmdWellFormed (cmdWord i) = true ∧
    cmdRsv (cmdWord i) = 0b00000#5 ∧ cmdOp (cmdWord i) = opOf i

theorem crc16 : Statement .crc16 := ⟨rfl, by decide, by decide, by decide⟩
theorem encode : Statement .encode := ⟨rfl, by decide, by decide, by decide⟩
theorem decode : Statement .decode := ⟨rfl, by decide, by decide, by decide⟩
theorem seqInc : Statement .seqInc := ⟨rfl, by decide, by decide, by decide⟩
theorem send : Statement .send := ⟨rfl, by decide, by decide, by decide⟩

end Sys2Proof.Laws.CommandWord
end

