-- ==== Sys2Proof/Laws/Step.lean ====
section
/-! SUPPORT. What a step does, by the host's next event. -/

namespace Sys2Proof.Machine

theorem step_of_idle {s : State} (h : s.pending = []) : step s = .next s := by
  simp only [step, h]

theorem step_of_reset {s : State} {rest : List HostEvent} (h : s.pending = .reset :: rest) :
    step s = .next (s.applyReset rest) := by
  simp only [step, h]

theorem step_of_request {s : State} {r : Request} {rest : List HostEvent}
    (h : s.pending = .request r :: rest) : step s = serve (s.latch r rest) := by
  simp only [step, h]

/-- Serving a request either runs the operation its word selects or answers `UnrecognizedInputShape`. -/
theorem serve_cases (s : State) :
    (∃ i, decodeCmd s.port.cmd = .ok i ∧ serve s = exec i s) ∨
    (∃ e, decodeCmd s.port.cmd = .error e ∧ serve s = .next s.rejectWord) := by
  unfold serve
  cases h : decodeCmd s.port.cmd with
  | ok i => exact .inl ⟨i, rfl, rfl⟩
  | error e => exact .inr ⟨e, rfl, rfl⟩

/-- A run goes on from the state after its first step. -/
theorem run_succ_of_step {s t : State} (k : Nat) (h : step s = .next t) :
    Host.Core.run Sys2Proof.core (k + 1) s = Host.Core.run Sys2Proof.core k t := by
  have h' : Sys2Proof.core.step s = .next t := h
  simp only [Host.Core.run, h']

end Sys2Proof.Machine
end

