-- ==== Sys2Proof/Tests/Slice0.lean ====
section
/-! SUPPORT. Tests. Expected values are those of spec/95_test_vectors.md (named in each comment) or read from a
rule's table; then one witness per statement that has hypotheses. -/

-- Elaborate in order: the kernel evaluations below run one after another, not in a thread each.
set_option Elab.async false

namespace Sys2Proof.Tests

open Sys2Proof.Machine

/-- The illustrative parameter set EX (95_test_vectors.md section 0). -/
def ex : Params where
  fc := #v[0x41, 0xCC]
  dstPan := #v[0x34, 0x12]
  dstAddr := #v[0x11, 0x22, 0x33, 0x44, 0x55, 0x66, 0x77, 0x88]
  srcAddr := #v[0x01, 0x02, 0x03, 0x04, 0x05, 0x06, 0x07, 0x08]
  cmdMarker := 0xA5
  subSrcAddr := #v[0xA0, 0xA1, 0xA2, 0xA3, 0xA4, 0xA5, 0xA6, 0xA7]
  subDstAddr := #v[0xB0, 0xB1, 0xB2, 0xB3, 0xB4, 0xB5, 0xB6, 0xB7]
  subPan := #v[0x12, 0x34]

/-- The header `H(s)` of 95_test_vectors.md section 0, written out. -/
def exHeader (s : Byte) : Bytes :=
  [0x41, 0xCC, s, 0x34, 0x12, 0x11, 0x22, 0x33, 0x44, 0x55, 0x66, 0x77, 0x88,
   0x01, 0x02, 0x03, 0x04, 0x05, 0x06, 0x07, 0x08]

/-- `SUB` of 95_test_vectors.md section 2.2, written out. -/
def exSub : Bytes :=
  [0xA0, 0xA1, 0xA2, 0xA3, 0xA4, 0xA5, 0xA6, 0xA7,
   0xB0, 0xB1, 0xB2, 0xB3, 0xB4, 0xB5, 0xB6, 0xB7, 0x12, 0x34]

/-- `F1`, the frame of ENC-1. -/
def exF1 : Bytes := exHeader 0x00 ++ [0x01, 0x02, 0x03, 0x30, 0xD1]

/-- A block with EX, a given counter and given operands on the ports. -/
def block (seq : Byte) (inp : Bytes) (seqIn : Byte) : State :=
  { State.construct ex false with seq := seq, port := ⟨0x00, inp, seqIn⟩ }

/-- A block with EX, a given counter and given events to come. -/
def facing (seq : Byte) (events : List HostEvent) : State :=
  { State.construct ex false with seq := seq, pending := events }

/-- The response and the counter of an outcome. -/
def observed : Host.Outcome State Fault Refusal → Option (Option Response × Byte)
  | .next s => some (s.response, s.seq)
  | .fault _ => none
  | .refused _ => none

/-! ### Well-formedness and decoding -/

/-- An ill-formed command word for each check (R46; section 2.5). -/
theorem test_reserved_operation_ill_formed : cmdWellFormed 0x05 = false := by decide
theorem test_reserved_field_ill_formed : cmdWellFormed 0x08 = false := by decide
theorem test_assigned_word_well_formed : cmdWellFormed 0x04 = true := by decide

/-- EX has both expected properties (section 0); a set without each (R7). -/
theorem test_ex_properties : ex.SubPanSwap ∧ ex.SubSrcDistinct := by decide
theorem test_pan_not_swapped : ¬ ({ ex with subPan := #v[0x34, 0x12] } : Params).SubPanSwap := by decide
theorem test_source_not_distinct :
    ¬ ({ ex with subSrcAddr := ex.srcAddr } : Params).SubSrcDistinct := by decide

/-- R44's table, the words written out bit by bit: `RSV`, then `OP`. -/
theorem test_decode_crc16 : decode [0b00000000#8] = .ok (.crc16, []) := by decide
theorem test_decode_encode : decode [0b00000001#8] = .ok (.encode, []) := by decide
theorem test_decode_decode : decode [0b00000010#8] = .ok (.decode, []) := by decide
theorem test_decode_seqInc : decode [0b00000011#8] = .ok (.seqInc, []) := by decide
theorem test_decode_send : decode [0b00000100#8] = .ok (.send, []) := by decide
theorem test_decode_reserved_operation :
    decode [0b00000110#8] = .error (.reservedOperation 0b110) := by decide
theorem test_decode_reserved_field : decode [0x0C] = .error (.reservedField 0b00001) := by decide
theorem test_decode_nothing : decode [] = .error .noWord := by decide

/-- The first line of program P1 (section 3): `Cmd 0x04 / In [01 02 03] / SeqIn 00`. -/
theorem test_assemble_send : assemble (.send [1, 2, 3]) = ⟨0x04, [1, 2, 3], 0x00⟩ := by decide

/-- R47's numbers. -/
theorem test_status_codes :
    [Status.ok, .payloadTooLarge, .frameTooShort, .checksumMismatch, .emptyPayload, .commandTooShort,
      .unrecognizedInputShape].map statusCode = [0, 1, 2, 3, 4, 5, 6] := by decide

/-! ### Operations -/

/-- CRC-9. -/
theorem test_crc16_bytes :
    observed (exec .crc16 (block 0x33 [0x01, 0x02, 0x03] 0x00)) = some (some ⟨.ok, [], 0x5BF7⟩, 0x33) := by
  decide +kernel

/-- CRC-15. -/
theorem test_crc16_digits :
    checksum [0x31, 0x32, 0x33, 0x34, 0x35, 0x36, 0x37, 0x38, 0x39] = 0x2189 := by decide +kernel

/-- ENC-3, with a counter that must not matter. -/
theorem test_encode_plain :
    observed (exec .encode (block 0x33 [0x01, 0x02, 0x03] 0xFF)) =
      some (some ⟨.ok, exHeader 0xFF ++ [0x01, 0x02, 0x03, 0xDF, 0xA4], 0⟩, 0x33) := by decide +kernel

/-- ENC-13: the bytes beyond index 5 are ignored. -/
theorem test_encode_command :
    observed (exec .encode (block 0x33 [0x23, 0x4F, 0x31, 0x32, 0x33, 0x34, 0x35, 0x36] 0x05)) =
      some (some ⟨.ok, exHeader 0x05 ++ [0xA5, 0x4F, 0x31, 0x32, 0x33, 0x34] ++ exSub ++ [0x86, 0xB2], 0⟩,
        0x33) := by decide +kernel

/-- DEC-12: a zero byte appended. -/
theorem test_decode_appended_zero :
    observed (exec .decode (block 0x33 (exF1 ++ [0x00]) 0x00)) =
      some (some ⟨.ok, [0x01, 0x02, 0x03, 0x30], 0⟩, 0x33) := by decide +kernel

/-- DEC-10: the frame's last bit flipped. -/
theorem test_decode_corrupted :
    observed (exec .decode (block 0x33 (flipBit exF1 25 7) 0x00)) =
      some (some ⟨.checksumMismatch, [], 0⟩, 0x33) := by decide +kernel

/-- SEQ-2 and SEQ-3. -/
theorem test_seqInc_counts :
    observed (exec .seqInc (block 0xFE [] 0x00)) = some (some ⟨.ok, [], 0⟩, 0xFF) := by decide
theorem test_seqInc_wraps :
    observed (exec .seqInc (block 0xFF [] 0x00)) = some (some ⟨.ok, [], 0⟩, 0x00) := by decide

/-- SEQ-11: `SeqIn` ignored. -/
theorem test_send_ignores_seqIn :
    observed (exec .send (block 0x33 [0xAA] 0x99)) =
      some (some ⟨.ok, exHeader 0x33 ++ [0xAA, 0x77, 0x78], 0⟩, 0x34) := by decide +kernel

/-- SEQ-8. -/
theorem test_send_failing_keeps_counter :
    observed (exec .send (block 0x10 [0x23, 0x4F, 0x31] 0x00)) =
      some (some ⟨.commandTooShort, [], 0⟩, 0x10) := by decide

/-! ### Steps -/

/-- The first operation after reset runs (R117): `CRC16` of nothing is 0 (CRC-1). -/
theorem test_step_after_reset :
    observed (step (State.reset.withFetchWord 8 0x00)) = some (some ⟨.ok, [], 0⟩, 0x00) := by decide

/-- Section 2.5: a reserved word, whatever the operands. -/
theorem test_step_reserved_word :
    observed (step (facing 0x10 [.request ⟨0x80, [1, 2], 7⟩])) =
      some (some ⟨.unrecognizedInputShape, [], 0⟩, 0x10) := by decide

/-- R116: reset between operations. -/
theorem test_step_reset_event :
    observed (step (facing 0x42 [.reset])) = some (none, 0x00) := by decide

/-! ### Witnesses: states and operands that meet each statement's hypotheses -/

/-- Plain payloads at both ends of their range, and a command payload of the least length. -/
theorem test_encodable_plain_shortest : EncodablePayload [0xAA] := by
  refine ⟨by decide, by decide, by decide⟩
theorem test_encodable_plain_longest :
    EncodablePayload (List.replicate 233 0x00) ∧ (List.replicate 233 (0x00 : Byte)).head? ≠ some 0x23 := by
  refine ⟨⟨?_, ?_, ?_⟩, ?_⟩ <;> decide +kernel
theorem test_encodable_command :
    EncodablePayload [0x23, 0x4F, 0x31, 0x32, 0x33, 0x34] ∧
      ([0x23, 0x4F, 0x31, 0x32, 0x33, 0x34] : Bytes).head? = some 0x23 := by
  refine ⟨⟨by decide, by decide, by decide⟩, by decide⟩

theorem test_witness_crcBitStep : (15 : Nat) < 16 := by decide
theorem test_witness_zeroBytes : checksum [0xFF, 0x78, 0x0F] = 0 := by decide +kernel
theorem test_witness_linear : ([1, 2] : Bytes).length = ([3, 4] : Bytes).length := by decide
theorem test_witness_bitFlip :
    checksum [0xFF, 0x78, 0x0F] = 0 ∧ 2 < ([0xFF, 0x78, 0x0F] : Bytes).length ∧ 7 < 8 := by decide +kernel
theorem test_witness_plainFrame :
    ([0xAA] : Bytes) ≠ [] ∧ ([0xAA] : Bytes).head? ≠ some 0x23 ∧ ([0xAA] : Bytes).length ≤ 233 := by decide
theorem test_witness_commandFrame :
    ([0x23, 1, 2, 3, 4, 5] : Bytes).head? = some 0x23 ∧ 6 ≤ ([0x23, 1, 2, 3, 4, 5] : Bytes).length := by decide
theorem test_witness_encoded_plain : ∃ f, encodeFrame ex [0xAA] 0x00 = (.ok, f) := ⟨_, rfl⟩
theorem test_witness_encoded_command :
    ∃ f, encodeFrame ex [0x23, 0x4F, 0x31, 0x32, 0x33, 0x34] 0x05 = (.ok, f) := ⟨_, rfl⟩
/-- ENC-8's length, and the length just below it. -/
theorem test_witness_tooLarge :
    (List.replicate 234 (0x00 : Byte)).head? ≠ some 0x23 ∧ 233 < (List.replicate 234 (0x00 : Byte)).length ∧
      (encodeFrame ex (List.replicate 234 0x00) 0x07).1 = .payloadTooLarge := by decide +kernel
theorem test_witness_largest :
    (List.replicate 233 (0x00 : Byte)).head? ≠ some 0x23 ∧ (List.replicate 233 (0x00 : Byte)).length = 233 := by
  decide +kernel
/-- ENC-9 and ENC-11: the encoder's other errors. -/
theorem test_witness_encoderErrors :
    encodeFrame ex [] 0x00 = (.emptyPayload, []) ∧
      encodeFrame ex [0x23, 0x4F, 0x31, 0x32] 0x00 = (.commandTooShort, []) := by decide
/-- DEC-4, DEC-2's length and DEC-6: each clause of the decoder at its boundary. -/
theorem test_witness_decoder :
    (List.replicate 22 (0xFF : Byte)).length < 23 ∧
      (23 ≤ (List.replicate 23 (0x00 : Byte)).length ∧ checksum (List.replicate 23 0x00) = 0) ∧
      (23 ≤ (List.replicate 23 (0xFF : Byte)).length ∧ checksum (List.replicate 23 0xFF) ≠ 0) := by
  decide +kernel
/-- DEC-14, and a second header before the same tail. -/
theorem test_witness_headers :
    (List.replicate 21 (0x00 : Byte)).length = 21 ∧
      (List.replicate 18 (0x00 : Byte) ++ [0xFF, 0x78, 0x0F]).length = 21 ∧
      2 ≤ ([1, 2, 3, 0xF7, 0x5B] : Bytes).length ∧
      checksum (List.replicate 21 0x00 ++ [1, 2, 3, 0xF7, 0x5B]) = 0 ∧
      checksum ((List.replicate 18 0x00 ++ [0xFF, 0x78, 0x0F]) ++ [1, 2, 3, 0xF7, 0x5B]) = 0 := by
  decide +kernel
theorem test_witness_roundTrip :
    (block 0 [0x01] 0).port.inp ≠ [] ∧ (block 0 [0x01] 0).port.inp.head? ≠ some 0x23 ∧
      (block 0 [0x01] 0).port.inp.length ≤ 233 := by decide
theorem test_witness_corrupted :
    ∃ f, encodeFrame ex [0x01, 0x02, 0x03] 0x00 = (.ok, f) ∧ 25 < f.length ∧ 7 < 8 :=
  ⟨_, rfl, by decide, by decide⟩
theorem test_witness_zeroPadded : ∃ p, decodeFrame exF1 = (.ok, p) ∧ 1 ≤ 1 ∧ 23 ≤ 23 :=
  ⟨[0x01, 0x02, 0x03], by decide +kernel, by decide, by decide⟩
theorem test_witness_encodeCompletes : EncodablePayload (block 0 [0xAA] 0).port.inp :=
  test_encodable_plain_shortest
/-- The three clauses of `DECODE`. -/
theorem test_witness_decodeCompletes :
    (23 ≤ (block 0 exF1 0).port.inp.length ∧ checksum (block 0 exF1 0).port.inp = 0) ∧
      (block 0 (exF1.take 22) 0).port.inp.length < 23 ∧
      (23 ≤ (block 0 (flipBit exF1 21 0) 0).port.inp.length ∧
        checksum (block 0 (flipBit exF1 21 0) 0).port.inp ≠ 0) := by decide +kernel
/-- Successful `SEND` and `ENCODE`. -/
theorem test_witness_frameCarries :
    (∃ t f v, exec .send (block 0xFF [0xAA] 0) = .next t ∧ t.response = some ⟨.ok, f, v⟩) ∧
      (∃ t f v, exec .encode (block 0xFF [0xAA] 0) = .next t ∧ t.response = some ⟨.ok, f, v⟩) :=
  ⟨⟨_, _, _, rfl, rfl⟩, ⟨_, _, _, rfl, rfl⟩⟩
/-- The three causes of an error of `ENCODE` and `SEND`. -/
theorem test_witness_raise :
    (block 0 [] 0).port.inp = [] ∧
      ((block 0 [0x23, 1, 2, 3, 4] 0).port.inp.head? = some 0x23 ∧
        (block 0 [0x23, 1, 2, 3, 4] 0).port.inp.length < 6) ∧
      ((block 0 (List.replicate 234 0) 0).port.inp.head? ≠ some 0x23 ∧
        233 < (block 0 (List.replicate 234 0) 0).port.inp.length) := by decide +kernel
theorem test_witness_operationFrame :
    ∀ i ∈ [Instr.crc16, .encode, .decode, .seqInc, .send], ∃ t, exec i (block 0 [0xAA] 0) = .next t := by
  intro i _; cases i <;> exact ⟨_, rfl⟩
theorem test_witness_ignoredOperands : Instr.send ≠ .encode ∧ Instr.seqInc = .seqInc := by decide
theorem test_witness_wordRead : decode [0x04, 0x00] = .ok (.send, [0x00]) := by decide
theorem test_witness_stepRuns :
    (facing 0 [.request ⟨0x03, [], 0⟩, .reset]).pending = .request ⟨0x03, [], 0⟩ :: [.reset] ∧
      decodeCmd 0x03 = .ok .seqInc := by decide
/-- A reserved operation and a reserved field, at their boundaries. -/
theorem test_witness_reserved :
    (facing 0 [.request ⟨0x05, [], 0⟩]).pending = .request ⟨0x05, [], 0⟩ :: [] ∧
      5 ≤ (0x05 : Byte).toNat % 8 ∧ (0x08 : Byte).toNat / 8 ≠ 0 := by decide
theorem test_witness_idleAndReset :
    (facing 0 []).pending = [] ∧ (facing 0 [.reset]).pending = .reset :: [] := by decide
/-- The invariant on a state whose response is defined, and a step from it. -/
theorem test_witness_invariant :
    ({ block 0 [] 0 with response := some ⟨.ok, [], 0⟩ } : State).Inv ∧
      ∃ t, step { block 0 [] 0 with response := some ⟨.ok, [], 0⟩, pending := [.reset] } = .next t := by
  refine ⟨?_, _, rfl⟩
  intro r h
  cases h
  exact ⟨fun h => absurd rfl h, rfl⟩
theorem test_witness_run :
    ∃ t, Host.Core.run Sys2Proof.core 2 (facing 0 [.request ⟨0x03, [], 0⟩, .reset]) = .next t := ⟨_, rfl⟩
theorem test_witness_counter :
    ∃ t, step (facing 0xFF [.request ⟨0x04, [0xAA], 0⟩]) = .next t ∧
      ((0x04 : Byte) = 0x03 ∨ ((0x04 : Byte) = 0x04 ∧ ∃ f v, t.response = some ⟨.ok, f, v⟩)) :=
  ⟨_, rfl, .inr ⟨rfl, _, _, rfl⟩⟩
/-- P3: a failing `SEND`, then another request. -/
theorem test_witness_failedOperation :
    ∃ t r, step (facing 0 [.request ⟨0x04, [], 0⟩, .request ⟨0x04, [0x55], 0⟩]) = .next t ∧
      t.response = some r ∧ r.status ≠ .ok := ⟨_, _, rfl, rfl, by decide⟩
theorem test_witness_sends :
    (∀ p ∈ List.replicate 256 ([0xAA] : Bytes), EncodablePayload p) ∧
      (List.replicate 256 ([0xAA] : Bytes)).length = 256 ∧
      ∃ s : State, s.pending =
        (List.replicate 256 ([0xAA] : Bytes)).map (fun p => HostEvent.request ⟨0x04, p, 0⟩) ++ [] :=
  ⟨fun p h => by rw [List.eq_of_mem_replicate h]; exact test_encodable_plain_shortest,
    List.length_replicate, facing 0 _, rfl⟩
theorem test_witness_increments :
    (facing 0 [.request ⟨0x03, [], 0⟩, .request ⟨0x03, [], 0⟩]).pending =
      List.replicate 2 (HostEvent.request ⟨0x03, [], 0⟩) ++ [] := by decide

end Sys2Proof.Tests
end

section
/-! PROOFS. Support: the command word read back, the ways an operation can end, and the state with another debug
flag. -/

namespace Sys2Proof

/-- A command word is its reserved field above its operation field (R43). -/
theorem cmdRsv_append_cmdOp (w : Byte) : cmdRsv w ++ cmdOp w = w := by
  simp only [cmdRsv, cmdOp]
  rw [BitVec.extractLsb'_append_extractLsb'_eq_extractLsb' (by decide), BitVec.extractLsb'_eq_self]

/-- The operation field selects exactly the operation whose `OP` it is (R44). -/
theorem decodeOp_eq_ok_iff (op : BitVec 3) (i : Instr) : decodeOp op = .ok i ↔ op = opOf i := by
  revert op
  cases i <;> decide

/-- A command word selects exactly the operation whose word it is (R43, R44, R46). -/
theorem decodeCmd_eq_ok_iff (w : Byte) (i : Instr) : decodeCmd w = .ok i ↔ w = cmdWord i := by
  constructor
  · intro h
    unfold decodeCmd at h
    split at h
    · next hrsv =>
      have hop : cmdOp w = opOf i := (decodeOp_eq_ok_iff _ _).mp h
      rw [← cmdRsv_append_cmdOp w, hrsv, hop, cmdWord]
    · cases h
  · rintro rfl
    cases i <;> decide

end Sys2Proof

namespace Sys2Proof.Machine

/-- `deliver` responds from the done state or raises an error from the state before (R11). -/
theorem State.deliver_cases (s done : State) (result : Status × Bytes) :
    (∃ out, s.deliver done result = done.respond out 0x0000#16) ∨
    (∃ e, e ≠ .ok ∧ s.deliver done result = s.raise e) := by
  by_cases h : result.1 = .ok
  · exact .inl ⟨_, State.deliver_of_ok h⟩
  · exact .inr ⟨_, h, State.deliver_of_error h⟩

/-- `SEQ_INC` always responds `OK` with no output (R94). -/
theorem exec_seqInc (s : State) : exec .seqInc s = .next (s.advanceSeq.respond [] 0x0000#16) := rfl

/-- How an operation can end: it responds `OK` from the state it found; or raises an error from it; or, for
`SEQ_INC` and `SEND`, responds `OK` with the counter advanced. -/
theorem exec_cases (i : Instr) (s : State) :
    (i ≠ .seqInc ∧ i ≠ .send ∧ ∃ out val, exec i s = .next (s.respond out val)) ∨
    (i ≠ .seqInc ∧ ∃ e, e ≠ .ok ∧ exec i s = .next (s.raise e)) ∨
    ((i = .seqInc ∨ i = .send) ∧ ∃ out val, exec i s = .next (s.advanceSeq.respond out val)) := by
  cases i with
  | crc16 => exact .inl ⟨by decide, by decide, _, _, rfl⟩
  | encode =>
    obtain ⟨out, h⟩ | ⟨e, he, h⟩ :=
      s.deliver_cases s (encodeFrame s.params (inputOperand s) (seqOperand s))
    · exact .inl ⟨by decide, by decide, out, _, congrArg _ h⟩
    · exact .inr (.inl ⟨by decide, e, he, congrArg _ h⟩)
  | decode =>
    obtain ⟨out, h⟩ | ⟨e, he, h⟩ := s.deliver_cases s (decodeFrame (inputOperand s))
    · exact .inl ⟨by decide, by decide, out, _, congrArg _ h⟩
    · exact .inr (.inl ⟨by decide, e, he, congrArg _ h⟩)
  | seqInc => exact .inr (.inr ⟨.inl rfl, _, _, exec_seqInc s⟩)
  | send =>
    obtain ⟨out, h⟩ | ⟨e, he, h⟩ :=
      s.deliver_cases s.advanceSeq (encodeFrame s.params (inputOperand s) (counterOperand s))
    · exact .inr (.inr ⟨.inr rfl, out, _, congrArg _ h⟩)
    · exact .inr (.inl ⟨by decide, e, he, congrArg _ h⟩)

/-- The requests that increment the counter, by command word and outcome `t`: `SEQ_INC` (0x03), and a `SEND`
(0x04) that responds `OK` (R15). -/
def CountsUp (w : Byte) (t : State) : Prop :=
  w = 0x03#8 ∨ (w = 0x04#8 ∧ ∃ f v, t.response = some ⟨.ok, f, v⟩)

theorem countsUp_cmdWord (i : Instr) (t : State) :
    CountsUp (cmdWord i) t ↔ i = .seqInc ∨ (i = .send ∧ ∃ f v, t.response = some ⟨.ok, f, v⟩) := by
  have hinc : cmdWord i = 0x03#8 ↔ i = .seqInc := by cases i <;> decide
  have hsend : cmdWord i = 0x04#8 ↔ i = .send := by cases i <;> decide
  rw [CountsUp, hinc, hsend]

/-- A reserved command word does not count up (R46). -/
theorem not_countsUp_of_reserved {w : Byte} {e : Reserved} (h : decodeCmd w = .error e) (t : State) :
    ¬ CountsUp w t := by
  rintro (hw | ⟨hw, -⟩)
  · cases h.symm.trans ((decodeCmd_eq_ok_iff w .seqInc).mpr hw)
  · cases h.symm.trans ((decodeCmd_eq_ok_iff w .send).mpr hw)

/-- An operation increments the counter exactly when its word counts up (R15, R93). -/
theorem exec_seq {i : Instr} {s t : State} (h : exec i s = .next t) :
    (CountsUp (cmdWord i) t → t.seq = nextSeq s.seq) ∧ (¬ CountsUp (cmdWord i) t → t.seq = s.seq) := by
  rw [countsUp_cmdWord]
  obtain ⟨hinc, hsend, out, val, ht⟩ | ⟨hinc, e, he, ht⟩ | ⟨hi, out, val, ht⟩ := exec_cases i s <;>
    cases h.symm.trans ht
  · simp [hinc, hsend]
  · simp [hinc, he]
  · exact ⟨fun _ => rfl, fun hn => absurd (hi.imp_right (⟨·, out, val, rfl⟩)) hn⟩

/-- Serving a request increments the counter exactly when its word counts up; a reserved word leaves it. -/
theorem serve_seq {s t : State} (h : serve s = .next t) :
    (CountsUp s.port.cmd t → t.seq = nextSeq s.seq) ∧ (¬ CountsUp s.port.cmd t → t.seq = s.seq) := by
  obtain ⟨i, hi, hs⟩ | ⟨e, he, hs⟩ := serve_cases s
  · rw [(decodeCmd_eq_ok_iff _ _).mp hi]
    exact exec_seq (hs.symm.trans h)
  · cases h.symm.trans hs
    exact ⟨fun hc => absurd hc (not_countsUp_of_reserved he _), fun _ => rfl⟩

/-- The word 0x03 is served by `SEQ_INC` (R44, R94). -/
theorem serve_of_seqInc_word {s : State} (h : s.port.cmd = 0x03#8) :
    serve s = .next (s.advanceSeq.respond [] 0x0000#16) := by
  have hdecode : decodeCmd s.port.cmd = .ok .seqInc := (decodeCmd_eq_ok_iff _ .seqInc).mpr h
  simp only [serve, hdecode, exec_seqInc]

/-! The state with another debug flag: the operations of Machine/Ops.lean commute with the change. -/

/-- The block with `DEBUG` at `d`, as in the statement about R18. -/
def State.setDebug (s : State) (d : Bool) : State := { s with debug := d }

theorem State.setDebug_latch (s : State) (d : Bool) (r : Request) (rest : List HostEvent) :
    (s.setDebug d).latch r rest = (s.latch r rest).setDebug d := rfl

theorem State.setDebug_deliver (s done : State) (d : Bool) (result : Status × Bytes) :
    (s.setDebug d).deliver (done.setDebug d) result = (s.deliver done result).setDebug d := by
  by_cases h : result.1 = .ok
  · rw [State.deliver_of_ok h, State.deliver_of_ok h]; rfl
  · rw [State.deliver_of_error h, State.deliver_of_error h]; rfl

/-- An operation ends the same for either value of `DEBUG` but for the flag itself (R18). -/
theorem exec_setDebug (i : Instr) (s : State) (d : Bool) :
    ∃ t, exec i s = .next t ∧ exec i (s.setDebug d) = .next (t.setDebug d) := by
  cases i with
  | crc16 => exact ⟨_, rfl, rfl⟩
  | encode => exact ⟨_, rfl, congrArg _ (s.setDebug_deliver s d _)⟩
  | decode => exact ⟨_, rfl, congrArg _ (s.setDebug_deliver s d _)⟩
  | seqInc => exact ⟨_, rfl, rfl⟩
  | send => exact ⟨_, rfl, congrArg _ (s.setDebug_deliver s.advanceSeq d _)⟩

/-- A request is served the same for either value of `DEBUG`, whatever its command word. -/
theorem serve_setDebug (s : State) (d : Bool) :
    ∃ t, serve s = .next t ∧ serve (s.setDebug d) = .next (t.setDebug d) := by
  have hport : (s.setDebug d).port = s.port := rfl
  unfold serve
  rw [hport]
  cases decodeCmd s.port.cmd with
  | ok i => exact exec_setDebug i s d
  | error e => exact ⟨_, rfl, rfl⟩

/-- A step is the same for either value of `DEBUG`, whatever the host's next event. -/
theorem step_setDebug (s : State) (d : Bool) :
    ∃ t, step s = .next t ∧ step (s.setDebug d) = .next (t.setDebug d) := by
  have hd : (s.setDebug d).pending = s.pending := rfl
  match hp : s.pending with
  | [] => exact ⟨s, step_of_idle hp, step_of_idle (hd.trans hp)⟩
  | .reset :: rest =>
    exact ⟨s.applyReset rest, step_of_reset hp, step_of_reset (hd.trans hp)⟩
  | .request r :: rest =>
    rw [step_of_request hp, step_of_request (hd.trans hp), State.setDebug_latch]
    exact serve_setDebug (s.latch r rest) d

/-- A run of any length is the same for either value of `DEBUG`. -/
theorem run_setDebug (k : Nat) (s : State) (d : Bool) :
    ∃ t : State, Host.Core.run Sys2Proof.core k s = .next t ∧
      Host.Core.run Sys2Proof.core k (s.setDebug d) = .next (t.setDebug d) := by
  induction k generalizing s with
  | zero => exact ⟨s, rfl, rfl⟩
  | succ k ih =>
    obtain ⟨u, hu, hud⟩ := step_setDebug s d
    rw [run_succ_of_step k hu, run_succ_of_step k hud]
    exact ih u

end Sys2Proof.Machine
end

section
/-! PROOFS. The statements of spec/10_state.md. -/

namespace Sys2Proof.Proofs

open Sys2Proof.Machine

/-- Settles O30: none of the three ways an operation can end touches the ports, the configuration or the events,
and only the one of `SEQ_INC` and `SEND` touches the counter. -/
theorem operationFrame : Obligations.OperationFrame := by
  intro i s t h
  obtain ⟨-, -, out, val, ht⟩ | ⟨-, e, -, ht⟩ | ⟨hi, out, val, ht⟩ := exec_cases i s <;>
    cases h.symm.trans ht
  · simp
  · simp
  · rcases hi with rfl | rfl <;> simp

/-- Settles O43: the change of flag commutes with every step, so with every run. -/
theorem debugHasNoEffect : Obligations.DebugHasNoEffect :=
  run_setDebug

/-- Settles O44: a request's step by `serve_seq`, a reset event and an idle step by what they do. -/
theorem counterChangesOnlyAsStated : Obligations.CounterChangesOnlyAsStated := by
  intro s t h
  refine ⟨fun q rest hp => ?_, fun rest hp => ?_, fun hp => ?_⟩
  · have hserve : serve (s.latch q rest) = .next t := (step_of_request hp).symm.trans h
    obtain ⟨hup, hkeep⟩ := serve_seq hserve
    refine ⟨fun hc => ?_, fun hw => ?_, hkeep⟩
    · rw [hup hc, nextSeq_toNat, State.latch_seq]
    · cases hserve.symm.trans (serve_of_seqInc_word hw)
      rfl
  · cases h.symm.trans (step_of_reset hp)
    rfl
  · cases h.symm.trans (step_of_idle hp)
    rfl

end Sys2Proof.Proofs
end

section
/-! PROOFS. Support: one more byte of the Checksum Engine's stream, the shape of an encoded frame, and what an `OK`
response of `deliver` says. -/

namespace Sys2Proof.Machine

@[simp] theorem byteBits_length (v : Byte) : (byteBits v).length = 8 := rfl

/-- The engine takes eight input bits per byte (R30). -/
@[simp] theorem bitStream_length (b : Bytes) : (bitStream b).length = 8 * b.length := by
  induction b with
  | nil => rfl
  | cons v b ih =>
    rw [bitStream_cons, List.length_append, byteBits_length, ih, List.length_cons]
    omega

/-- One more byte at the end is its own bit steps more, from the checksum so far (R59). -/
theorem checksum_append_byte (b : Bytes) (v : Byte) :
    checksum (b ++ [v]) = (byteBits v).foldl crcBit (checksum b) := by
  rw [checksum_append, bitStream_cons, bitStream_nil, List.append_nil]

/-- Header byte 2, after the Frame Control pair, is the sequence byte (R49, R70). -/
@[simp] theorem header_getElem?_two (c : Params) (seq : Byte) : (header c seq)[2]? = some seq := by
  have hfc : c.fc.toList.length = 2 := c.fc.length_toList
  simp [header, hfc]

/-- A frame the encoder returns is sealed and begins with the header for the sequence byte it was given (R70). -/
theorem encodeFrame_ok_header {c : Params} {p f : Bytes} {seq : Byte}
    (h : encodeFrame c p seq = (.ok, f)) : ∃ body, f = sealFrame (header c seq ++ body) := by
  obtain ⟨-, he⟩ | ⟨-, -, he⟩ | ⟨-, -, he⟩ | ⟨-, -, -, he⟩ | ⟨-, -, -, he⟩ :=
    encodeFrame_cases c p seq <;> cases h.symm.trans he
  · exact ⟨commandBody c p, rfl⟩
  · exact ⟨p, rfl⟩

/-- Byte 2 of a frame the encoder returns is the sequence byte it was given (R32). -/
theorem encodeFrame_ok_seqByte {c : Params} {p f : Bytes} {seq : Byte}
    (h : encodeFrame c p seq = (.ok, f)) : f[2]? = some seq := by
  obtain ⟨body, rfl⟩ := encodeFrame_ok_header h
  have hlen : 2 < (header c seq).length := by rw [header_length]; decide
  rw [sealFrame, List.append_assoc, List.getElem?_append_left hlen, header_getElem?_two]

/-- An `OK` response of `deliver` carries a successful result's bytes, from the state with the operation's effects
(R80, R92, R95). -/
theorem State.deliver_ok_inv {s done : State} {result : Status × Bytes} {f : Bytes} {v : Word16}
    (h : (s.deliver done result).response = some ⟨.ok, f, v⟩) :
    result = (.ok, f) ∧ s.deliver done result = done.respond f 0x0000#16 := by
  obtain ⟨status, out⟩ := result
  by_cases hok : status = .ok
  · subst hok
    cases h
    exact ⟨rfl, rfl⟩
  · rw [State.deliver_of_error hok] at h
    cases h
    exact absurd rfl hok

/-- A `SEND` that responds `OK` encoded with the counter's value and then advanced it (R95, R96). -/
theorem exec_send_ok_inv {s t : State} {f : Bytes} {v : Word16} (h : exec .send s = .next t)
    (hr : t.response = some ⟨.ok, f, v⟩) :
    encodeFrame s.params s.port.inp s.seq = (.ok, f) ∧ t = s.advanceSeq.respond f 0x0000#16 := by
  cases h
  exact State.deliver_ok_inv hr

/-- An `ENCODE` that responds `OK` encoded with `SeqIn` and changed nothing but the response (R80). -/
theorem exec_encode_ok_inv {s t : State} {f : Bytes} {v : Word16} (h : exec .encode s = .next t)
    (hr : t.response = some ⟨.ok, f, v⟩) :
    encodeFrame s.params s.port.inp s.port.seqIn = (.ok, f) ∧ t = s.respond f 0x0000#16 := by
  cases h
  exact State.deliver_ok_inv hr

end Sys2Proof.Machine
end

section
/-! PROOFS. The statements of spec/20_memory.md. -/

namespace Sys2Proof.Proofs

open Sys2Proof.Machine

/-- Settles O2: the fold goes on over an appended byte's eight bits, in `byteBits`' order, and ends there. -/
theorem checksumTakesBytesThenBitsInOrder : Obligations.ChecksumTakesBytesThenBitsInOrder :=
  ⟨rfl, checksum_append_byte, fun b => ⟨rfl, bitStream_length b⟩⟩

/-- Settles O27: an `OK` response holds the encoder's frame for the counter's old value (`SEND`) or for `SeqIn`
(`ENCODE`), and the encoder puts that value at byte 2. -/
theorem frameCarriesSequenceValueUsed : Obligations.FrameCarriesSequenceValueUsed := by
  refine ⟨fun s t f v h hr => ?_, fun s t f v h hr => ?_⟩
  · obtain ⟨hframe, rfl⟩ := exec_send_ok_inv h hr
    exact ⟨encodeFrame_ok_seqByte hframe, nextSeq_toNat s.seq⟩
  · obtain ⟨hframe, rfl⟩ := exec_encode_ok_inv h hr
    exact ⟨encodeFrame_ok_seqByte hframe, rfl⟩

end Sys2Proof.Proofs
end

section
/-! PROOFS. Support: slices, the parts of a sealed frame and of the Command Sub-Frame, and the one frame every
encodable payload gives. -/

namespace Sys2Proof.Machine

/-! Slices. -/

/-- A slice from the start that reaches the end is the whole string. -/
theorem slice_zero_of_length_le {b : Bytes} {j : Nat} (h : b.length ≤ j) : slice b 0 j = b := by
  rw [slice, List.drop_zero, Nat.sub_zero, List.take_of_length_le h]

/-- The byte at an index heads the slice of that one index. -/
theorem head?_slice_succ (b : Bytes) (i : Nat) : (slice b i (i + 1)).head? = b[i]? := by
  simp [slice, List.head?_take]

/-! The checksum field of a sealed frame. -/

/-- Before its checksum field a sealed frame is what was sealed (R76). -/
@[simp] theorem sealFrame_take (b : Bytes) : (sealFrame b).take b.length = b :=
  List.take_left

/-- The checksum field is the checksum of the bytes before it, as `le16` writes it (R76). -/
theorem sealFrame_checksum_slice (b : Bytes) :
    slice (sealFrame b) b.length (b.length + 2) = le16 (checksum b) := by
  rw [sealFrame, slice_append_right (Nat.le_refl _), Nat.sub_self, Nat.add_sub_cancel_left]
  exact slice_zero_of_length_le (Nat.le_refl _)

/-- The first checksum byte is the low one (R76). -/
theorem sealFrame_getElem?_low (b : Bytes) :
    (sealFrame b)[b.length]? = some ((checksum b).extractLsb' 0 8) := by
  simp [sealFrame, le16]

/-- The second checksum byte is the high one (R76). -/
theorem sealFrame_getElem?_high (b : Bytes) :
    (sealFrame b)[b.length + 1]? = some ((checksum b).extractLsb' 8 8) := by
  simp [sealFrame, le16]

/-! The header and the payload field of a frame. -/

/-- A frame's first 21 bytes are the header (R49). -/
theorem frame_take_header (c : Params) (seq : Byte) (body : Bytes) :
    (sealFrame (header c seq ++ body)).take 21 = header c seq := by
  rw [sealFrame, List.append_assoc, ← header_length c seq, List.take_left]

/-- Between header and checksum field a frame's slices are those of its payload field, 21 bytes on (R49). -/
theorem frame_slice_body (c : Params) (seq : Byte) {body : Bytes} {i j : Nat} (h : j ≤ body.length) :
    slice (sealFrame (header c seq ++ body)) (21 + i) (21 + j) = slice body i j := by
  have hbody : 21 + j ≤ (header c seq ++ body).length := by simp [h]
  rw [sealFrame, slice_append_left hbody, slice_append_right (by simp)]
  simp

/-! The Command Sub-Frame. -/

/-- The Command Sub-Frame's six parts at their offsets in it (R54). -/
theorem commandBody_slices (c : Params) {p : Bytes} (h : 6 ≤ p.length) :
    slice (commandBody c p) 0 1 = [c.cmdMarker] ∧
    slice (commandBody c p) 1 2 = slice p 1 2 ∧
    slice (commandBody c p) 2 6 = slice p 2 6 ∧
    slice (commandBody c p) 6 14 = c.subSrcAddr.toList ∧
    slice (commandBody c p) 14 22 = c.subDstAddr.toList ∧
    slice (commandBody c p) 22 24 = c.subPan.toList := by
  have hcode : (slice p 1 2).length = 1 := by rw [slice_length]; omega
  have hdigits : (slice p 2 6).length = 4 := by rw [slice_length]; omega
  simp only [commandBody, slice_append_left, slice_append_right, slice_zero_of_length_le,
    List.length_append, List.length_singleton, Vector.length_toList, hcode, hdigits, Nat.reduceAdd,
    Nat.reduceSub, Nat.reduceLeDiff, le_refl, and_self]

/-- Bytes after the first six have no effect on the Command Sub-Frame (R54). -/
theorem commandBody_append (c : Params) {p : Bytes} (h : 6 ≤ p.length) (q : Bytes) :
    commandBody c (p ++ q) = commandBody c p := by
  rw [commandBody, commandBody, slice_append_left (by omega), slice_append_left h]

/-- The first six bytes of a payload determine its Command Sub-Frame (R54). -/
theorem commandBody_take_append (c : Params) {p : Bytes} (h : 6 ≤ p.length) (q : Bytes) :
    commandBody c (p.take 6 ++ q) = commandBody c p := by
  have hlen : 6 ≤ (p.take 6).length := by rw [List.length_take]; omega
  calc commandBody c (p.take 6 ++ q)
      = commandBody c (p.take 6 ++ p.drop 6) := by
        rw [commandBody_append c hlen, commandBody_append c hlen]
    _ = commandBody c p := by rw [List.take_append_drop]

/-! The encoder on encodable payloads. -/

/-- The payload field of the frame for `p`: the Command Sub-Frame or `p` itself, by the first byte (R53, R54,
R71). -/
def payloadField (c : Params) (p : Bytes) : Bytes :=
  if p.head? = some 0x23#8 then commandBody c p else p

theorem payloadField_of_command (c : Params) {p : Bytes} (h : p.head? = some 0x23#8) :
    payloadField c p = commandBody c p := if_pos h

theorem payloadField_of_plain (c : Params) {p : Bytes} (h : p.head? ≠ some 0x23#8) :
    payloadField c p = p := if_neg h

theorem payloadFieldLen_of_command {p : Bytes} (h : p.head? = some 0x23#8) :
    payloadFieldLen p = 24 := if_pos h

theorem payloadFieldLen_of_plain {p : Bytes} (h : p.head? ≠ some 0x23#8) :
    payloadFieldLen p = p.length := if_neg h

theorem encodable_of_command {p : Bytes} (h : p.head? = some 0x23#8) (hlen : 6 ≤ p.length) :
    EncodablePayload p :=
  ⟨List.ne_nil_of_length_pos (by omega), fun _ => hlen, fun hp => absurd h hp⟩

theorem encodable_of_plain {p : Bytes} (hne : p ≠ []) (h : p.head? ≠ some 0x23#8)
    (hlen : p.length ≤ 233) : EncodablePayload p :=
  ⟨hne, fun hc => absurd hc h, fun _ => hlen⟩

/-- `N` is the payload field's length (R53, R54). -/
theorem payloadField_length (c : Params) {p : Bytes} (hp : EncodablePayload p) :
    (payloadField c p).length = payloadFieldLen p := by
  obtain ⟨-, hcommand, -⟩ := hp
  by_cases h : p.head? = some 0x23#8
  · rw [payloadField_of_command c h, payloadFieldLen_of_command h, commandBody_length c (hcommand h)]
  · rw [payloadField_of_plain c h, payloadFieldLen_of_plain h]

/-- `N` is 1 to 233 (R51). -/
theorem payloadFieldLen_bounds {p : Bytes} (hp : EncodablePayload p) :
    1 ≤ payloadFieldLen p ∧ payloadFieldLen p ≤ 233 := by
  obtain ⟨hne, -, hplain⟩ := hp
  by_cases h : p.head? = some 0x23#8
  · rw [payloadFieldLen_of_command h]; decide
  · rw [payloadFieldLen_of_plain h]
    exact ⟨List.length_pos_iff.mpr hne, hplain h⟩

/-- Every encodable payload gives the sealed header and payload field (R67, R70). -/
theorem encodeFrame_of_encodable (c : Params) {p : Bytes} (seq : Byte) (hp : EncodablePayload p) :
    encodeFrame c p seq = (.ok, sealFrame (header c seq ++ payloadField c p)) := by
  obtain ⟨hne, hcommand, hplain⟩ := hp
  obtain ⟨hlen, -⟩ | ⟨h, hlen, -⟩ | ⟨h, -, he⟩ | ⟨-, h, hlen, -⟩ | ⟨-, h, -, he⟩ :=
    encodeFrame_cases c p seq
  · exact absurd (List.eq_nil_of_length_eq_zero hlen) hne
  · exact absurd (hcommand h) (by omega)
  · rw [he, payloadField_of_command c h]
  · exact absurd (hplain h) (by omega)
  · rw [he, payloadField_of_plain c h]

/-- Every command payload of at least 6 bytes gives a frame (R74, decision D10). -/
theorem encodeFrame_of_command (c : Params) {p : Bytes} (seq : Byte) (h : p.head? = some 0x23#8)
    (hlen : 6 ≤ p.length) :
    encodeFrame c p seq = (.ok, sealFrame (header c seq ++ commandBody c p)) := by
  rw [encodeFrame_of_encodable c seq (encodable_of_command h hlen), payloadField_of_command c h]

/-- Every plain payload of 1 to 233 bytes gives a frame (R72). -/
theorem encodeFrame_of_plain (c : Params) {p : Bytes} (seq : Byte) (hne : p ≠ [])
    (h : p.head? ≠ some 0x23#8) (hlen : p.length ≤ 233) :
    encodeFrame c p seq = (.ok, sealFrame (header c seq ++ p)) := by
  rw [encodeFrame_of_encodable c seq (encodable_of_plain hne h hlen), payloadField_of_plain c h]

end Sys2Proof.Machine
end

section
/-! PROOFS. The statements of spec/30_encoding.md. -/

namespace Sys2Proof.Proofs

open Sys2Proof.Machine

/-- Settles O9: the frame is the sealed header and payload field; the field's length and bounds give the lengths,
sealing gives the checksum bytes. -/
theorem encodedFrameLayout : Obligations.EncodedFrameLayout := by
  intro c p seq hp
  obtain ⟨hpos, hmax⟩ := payloadFieldLen_bounds hp
  have hbefore : (header c seq ++ payloadField c p).length = 21 + payloadFieldLen p := by
    rw [List.length_append, header_length, payloadField_length c hp]
  have hlen := sealFrame_length (header c seq ++ payloadField c p)
  rw [hbefore] at hlen
  refine ⟨_, encodeFrame_of_encodable c seq hp, hlen, by omega, fun h => ?_, fun h => ?_,
    frame_take_header c seq _, ?_, ?_⟩
  · have hN := payloadFieldLen_of_command h
    exact ⟨hN, by omega⟩
  · have hN := payloadFieldLen_of_plain h
    exact ⟨hN, by omega, by omega⟩
  · rw [← hbefore, sealFrame_take, sealFrame_getElem?_low]
  · rw [show 22 + payloadFieldLen p = 21 + payloadFieldLen p + 1 by omega, ← hbefore, sealFrame_take,
      sealFrame_getElem?_high]

/-- Settles O10: the payload field of a plain payload's frame is the payload, from byte 21 on. -/
theorem plainPayloadCopiedVerbatim : Obligations.PlainPayloadCopiedVerbatim := by
  intro c p seq hne hplain hmax
  refine ⟨_, encodeFrame_of_plain c seq hne hplain hmax, ?_, ?_⟩
  · rw [sealFrame_length, List.length_append, header_length]
    omega
  · calc slice (sealFrame (header c seq ++ p)) (21 + 0) (21 + p.length)
        = slice p 0 p.length := frame_slice_body c seq (Nat.le_refl _)
      _ = p := slice_zero_of_length_le (Nat.le_refl _)

/-- Settles O11: a part of the Command Sub-Frame stands 21 bytes on in the frame, the checksum field follows its
24 bytes, and the sub-frame is a function of the first six input bytes. -/
theorem commandSubFrameLayout : Obligations.CommandSubFrameLayout := by
  intro c p seq hhead hlen
  have hbody : (commandBody c p).length = 24 := commandBody_length c hlen
  have hbefore : (header c seq ++ commandBody c p).length = 45 := by
    rw [List.length_append, header_length, hbody]
  have hpart : ∀ {i j : Nat}, j ≤ 24 → slice (sealFrame (header c seq ++ commandBody c p))
      (21 + i) (21 + j) = slice (commandBody c p) i j :=
    fun h => frame_slice_body c seq (hbody ▸ h)
  obtain ⟨hmarker, hcode, hdigits, hsrc, hdst, hpan⟩ := commandBody_slices c hlen
  refine ⟨_, encodeFrame_of_command c seq hhead hlen, ?_, (hpart (by decide)).trans hmarker, ?_,
    (hpart (by decide)).trans hdigits, (hpart (by decide)).trans hsrc,
    (hpart (by decide)).trans hdst, (hpart (by decide)).trans hpan, ?_, fun q => ?_⟩
  · rw [sealFrame_length, hbefore]
  · have hbyte := (hpart (i := 1) (j := 2) (by decide)).trans hcode
    rw [← head?_slice_succ, ← head?_slice_succ, hbyte]
  · have hfield := sealFrame_checksum_slice (header c seq ++ commandBody c p)
    have htake := sealFrame_take (header c seq ++ commandBody c p)
    rw [hbefore] at hfield htake
    rw [htake, hfield]
  · have hhead' : (p.take 6 ++ q).head? = some 0x23#8 := by
      simp [List.head?_append, List.head?_take, hhead]
    have hlen' : 6 ≤ (p.take 6 ++ q).length := by
      rw [List.length_append, List.length_take]; omega
    rw [encodeFrame_of_command c seq hhead' hlen', commandBody_take_append c hlen]

end Sys2Proof.Proofs
end

section
/-! PROOFS. Support: the bits of the mask and of one bit step. -/

namespace Sys2Proof.Machine

/-- The mask's bits (R57). -/
theorem crcMask_getLsbD {k : Nat} (h : k < 16) :
    crcMask.getLsbD k = decide (k = 15 ∨ k = 10 ∨ k = 3) := by
  revert k
  decide

/-- A bit step takes the next higher bit and flips it where the mask has a bit, if input bit xor accumulator
bit 0 is 1 (R58). -/
theorem crcBit_getLsbD (acc : Word16) (x : Bool) (k : Nat) :
    (crcBit acc x).getLsbD k =
      (acc.getLsbD (k + 1) ^^ ((x ^^ acc.getLsbD 0) && crcMask.getLsbD k)) := by
  have hshift : (acc >>> 1).getLsbD k = acc.getLsbD (k + 1) := by
    rw [BitVec.getLsbD_ushiftRight, Nat.add_comm]
  rw [crcBit]
  cases x ^^ acc.getLsbD 0 with
  | false => simp [hshift]
  | true => simp [hshift]

end Sys2Proof.Machine
end

section
/-! PROOFS. The statements of spec/40_checksum.md. -/

namespace Sys2Proof.Proofs

open Sys2Proof.Machine

/-- Settles O1: a bit step is the shift with the mask's bits flipped, and the mask's bits are 15, 10 and 3. -/
theorem crcBitStepByBits : Obligations.CrcBitStepByBits := by
  refine ⟨rfl, fun acc x k hk => ⟨crcMask_getLsbD hk, ?_⟩⟩
  rw [crcBit_getLsbD, crcMask_getLsbD hk]

end Sys2Proof.Proofs
end

section
/-! PROOFS. Support: adjacent slices, a frame's payload field read back, and the payloads an encoder answer belongs
to. -/

namespace Sys2Proof.Machine

/-- Adjacent slices join (R10). -/
theorem slice_append_slice (b : Bytes) {i j k : Nat} (hij : i ≤ j) (hjk : j ≤ k) :
    slice b i j ++ slice b j k = slice b i k := by
  have hdrop : b.drop j = (b.drop i).drop (j - i) := by
    rw [List.drop_drop, Nat.add_sub_cancel' hij]
  rw [slice, slice, slice, hdrop, ← List.take_add]
  congr 1
  omega

/-- The Command Sub-Frame's command code and digits are input bytes 1 to 5, in one piece (R54). -/
theorem commandBody_eq (c : Params) (p : Bytes) :
    commandBody c p = [c.cmdMarker] ++ slice p 1 6
      ++ c.subSrcAddr.toList ++ c.subDstAddr.toList ++ c.subPan.toList := by
  rw [commandBody, List.append_assoc [c.cmdMarker], slice_append_slice p (by decide) (by decide)]

/-- The payload field between header and checksum field is the one sealed there (R49, R55). -/
theorem framePayload_sealFrame (c : Params) (seq : Byte) (body : Bytes) :
    framePayload (sealFrame (header c seq ++ body)) = body := by
  have hend : (sealFrame (header c seq ++ body)).length - checksumLen = 21 + body.length := by
    rw [sealFrame_length, List.length_append, header_length, checksumLen, Nat.add_sub_cancel]
  calc framePayload (sealFrame (header c seq ++ body))
      = slice (sealFrame (header c seq ++ body)) (21 + 0) (21 + body.length) := by
        rw [framePayload, hend, headerLen]
    _ = slice body 0 body.length := frame_slice_body c seq (Nat.le_refl _)
    _ = body := slice_zero_of_length_le (Nat.le_refl _)

/-- Only an encodable payload gets a frame (R67, R68). -/
theorem encodable_of_encodeFrame_ok {c : Params} {p : Bytes} {seq : Byte}
    (h : (encodeFrame c p seq).1 = .ok) : EncodablePayload p := by
  obtain ⟨-, he⟩ | ⟨-, -, he⟩ | ⟨hhead, hlen, -⟩ | ⟨-, -, -, he⟩ | ⟨hne, hhead, hlen, -⟩ :=
    encodeFrame_cases c p seq
  · simp [he] at h
  · simp [he] at h
  · exact encodable_of_command hhead hlen
  · simp [he] at h
  · exact encodable_of_plain (List.ne_nil_of_length_pos (by omega)) hhead hlen

/-- The payload field of a frame the encoder returns (R53, R54, R71). -/
theorem encodeFrame_ok_payload {c : Params} {p f : Bytes} {seq : Byte}
    (h : encodeFrame c p seq = (.ok, f)) : framePayload f = payloadField c p := by
  have hp : EncodablePayload p := encodable_of_encodeFrame_ok (congrArg Prod.fst h)
  cases h.symm.trans (encodeFrame_of_encodable c seq hp)
  exact framePayload_sealFrame c seq (payloadField c p)

/-- A plain payload over 233 bytes is refused (R73). -/
theorem encodeFrame_of_tooLarge (c : Params) {p : Bytes} (seq : Byte) (h : p.head? ≠ some 0x23#8)
    (hlen : 233 < p.length) : encodeFrame c p seq = (.payloadTooLarge, []) := by
  obtain ⟨hzero, -⟩ | ⟨hc, -⟩ | ⟨hc, -⟩ | ⟨-, -, -, he⟩ | ⟨-, -, hmax, -⟩ := encodeFrame_cases c p seq
  · omega
  · exact absurd hc h
  · exact absurd hc h
  · exact he
  · omega

/-- Only a plain payload over 233 bytes is refused as too large (R73). -/
theorem tooLarge_of_encodeFrame {c : Params} {p : Bytes} {seq : Byte}
    (h : (encodeFrame c p seq).1 = .payloadTooLarge) : p.head? ≠ some 0x23#8 ∧ 233 < p.length := by
  obtain ⟨-, he⟩ | ⟨-, -, he⟩ | ⟨-, -, he⟩ | ⟨-, hhead, hlen, -⟩ | ⟨-, -, -, he⟩ :=
    encodeFrame_cases c p seq
  · simp [he] at h
  · simp [he] at h
  · simp [he] at h
  · exact ⟨hhead, hlen⟩
  · simp [he] at h

end Sys2Proof.Machine
end

section
/-! PROOFS. The statements of spec/41_frame_encoder.md. -/

namespace Sys2Proof.Proofs

open Sys2Proof.Machine

/-- Settles O12: a returned frame's payload field is `payloadField`, which the first byte alone selects. -/
theorem variantChosenByFirstByte : Obligations.VariantChosenByFirstByte := by
  intro c p seq f h
  have hfield : framePayload f = payloadField c p := encodeFrame_ok_payload h
  refine ⟨fun hcommand => ?_, fun hplain => ?_⟩
  · rw [hfield, payloadField_of_command c hcommand, commandBody_eq]
  · rw [hfield, payloadField_of_plain c hplain]

/-- Settles O13: over 233 bytes the refusal, in both directions; at 233 the frame has 21, 233 and 2 bytes. -/
theorem payloadTooLargeExactly : Obligations.PayloadTooLargeExactly := by
  intro c p seq
  refine ⟨encodeFrame_of_tooLarge c seq, fun h => ?_, fun hplain hlen => ?_⟩
  · obtain ⟨hplain, hlen⟩ := tooLarge_of_encodeFrame h
    exact ⟨hplain, by omega⟩
  · have hne : p ≠ [] := List.ne_nil_of_length_pos (by omega)
    refine ⟨_, encodeFrame_of_plain c seq hne hplain (by omega), ?_⟩
    rw [sealFrame_length, List.length_append, header_length, hlen]

end Sys2Proof.Proofs
end

section
/-! PROOFS. Support: the Checksum Engine over its own checksum, the bytes of a payload field, and the decoder's
answer by case, alone and as the `DECODE` operation. -/

namespace Sys2Proof.Machine

/-! The self-check property. -/

/-- An input bit equal to accumulator bit 0 only shifts the accumulator (R58). -/
theorem crcBit_getLsbD_zero (acc : Word16) : crcBit acc (acc.getLsbD 0) = acc >>> 1 := by
  simp [crcBit]

/-- The accumulator's own low `n` bits, taken in order, shift it out by `n` (40_checksum.md section 4). -/
theorem foldl_crcBit_own_bits (acc : Word16) (n : Nat) :
    ((List.range n).map acc.getLsbD).foldl crcBit acc = acc >>> n := by
  induction n with
  | zero => simp
  | succ n ih =>
    have hbit : acc.getLsbD n = (acc >>> n).getLsbD 0 := by simp
    rw [List.range_succ, List.map_append, List.foldl_append, ih, List.map_singleton, List.foldl_cons,
      List.foldl_nil, hbit, crcBit_getLsbD_zero, ← BitVec.shiftRight_add]

/-- `le16` sends the 16 bits to the engine lowest first (R29, R30). -/
theorem bitStream_le16 (v : Word16) : bitStream (le16 v) = (List.range 16).map v.getLsbD := by
  simp [le16, byteBits, List.range_succ]

/-- The self-check property (R62): a string followed by its own checksum has checksum 0. -/
theorem checksum_sealFrame (b : Bytes) : checksum (sealFrame b) = 0x0000#16 := by
  rw [sealFrame, checksum_append, bitStream_le16, foldl_crcBit_own_bits]
  exact BitVec.ushiftRight_eq_zero (Nat.le_refl 16)

/-! The payload field of any byte string. -/

/-- Byte `k` of a slice is byte `i + k` of the string (R10). -/
theorem slice_getElem? (b : Bytes) {i j k : Nat} (h : k < j - i) : (slice b i j)[k]? = b[i + k]? := by
  rw [slice, List.getElem?_take_of_lt h, List.getElem?_drop]

/-- A string of at least 23 bytes has a payload field of 23 bytes less (R55). -/
theorem framePayload_length {f : Bytes} (h : 23 ≤ f.length) :
    (framePayload f).length = f.length - 23 := by
  rw [framePayload, slice_length, headerLen, checksumLen]
  omega

/-- The payload field's bytes are the string's from offset 21 (R49). -/
theorem framePayload_getElem? (f : Bytes) {k : Nat} (h : k < f.length - 23) :
    (framePayload f)[k]? = f[21 + k]? :=
  slice_getElem? f (by rw [headerLen, checksumLen]; omega)

/-- After any 21 bytes the payload field is what follows them but for the last two bytes (R49, R55). -/
theorem framePayload_append {h tail : Bytes} (hlen : h.length = 21) :
    framePayload (h ++ tail) = tail.take (tail.length - 2) := by
  have hend : (h ++ tail).length - checksumLen - h.length = tail.length - 2 := by
    rw [List.length_append, checksumLen]
    omega
  rw [framePayload, headerLen, ← hlen, slice_append_right (Nat.le_refl _), hend, Nat.sub_self, slice,
    List.drop_zero, Nat.sub_zero]

/-! The decoder. -/

/-- Fewer than 23 bytes are too short, whatever their checksum (R82). -/
theorem decodeFrame_of_short {f : Bytes} (h : f.length < 23) :
    decodeFrame f = (.frameTooShort, []) := by
  obtain ⟨-, he⟩ | ⟨hlen, -⟩ | ⟨hlen, -⟩ := decodeFrame_cases f
  · exact he
  · omega
  · omega

/-- A long enough string with a nonzero checksum is refused (R84). -/
theorem decodeFrame_of_mismatch {f : Bytes} (h : 23 ≤ f.length) (hc : checksum f ≠ 0x0000#16) :
    decodeFrame f = (.checksumMismatch, []) := by
  obtain ⟨hlen, -⟩ | ⟨-, -, he⟩ | ⟨-, hzero, -⟩ := decodeFrame_cases f
  · omega
  · exact he
  · exact absurd hzero hc

/-- A string that passes both checks decodes to its payload field (R85). -/
theorem decodeFrame_of_passing {f : Bytes} (h : 23 ≤ f.length) (hc : checksum f = 0x0000#16) :
    decodeFrame f = (.ok, framePayload f) := by
  obtain ⟨hlen, -⟩ | ⟨-, hnonzero, -⟩ | ⟨-, -, he⟩ := decodeFrame_cases f
  · omega
  · exact absurd hc hnonzero
  · exact he

/-- Any 21 header bytes before a tail that makes the string pass: the tail alone is decoded (R83). -/
theorem decodeFrame_append {h tail : Bytes} (hlen : h.length = 21) (htail : 2 ≤ tail.length)
    (hc : checksum (h ++ tail) = 0x0000#16) :
    decodeFrame (h ++ tail) = (.ok, tail.take (tail.length - 2)) := by
  have hmin : 23 ≤ (h ++ tail).length := by rw [List.length_append]; omega
  rw [decodeFrame_of_passing hmin hc, framePayload_append hlen]

/-- A sealed header and payload field decode to the payload field (R86). -/
theorem decodeFrame_sealFrame (c : Params) (seq : Byte) (body : Bytes) :
    decodeFrame (sealFrame (header c seq ++ body)) = (.ok, body) := by
  have hmin : 23 ≤ (sealFrame (header c seq ++ body)).length := by
    rw [sealFrame_length, List.length_append, header_length]
    omega
  rw [decodeFrame_of_passing hmin (checksum_sealFrame _), framePayload_sealFrame]

/-- Every frame the encoder returns decodes to its payload field. -/
theorem decodeFrame_of_encodeFrame_ok {c : Params} {p f : Bytes} {seq : Byte}
    (h : encodeFrame c p seq = (.ok, f)) : decodeFrame f = (.ok, framePayload f) := by
  obtain ⟨body, rfl⟩ := encodeFrame_ok_header h
  rw [decodeFrame_sealFrame, framePayload_sealFrame]

/-- `DECODE` puts the decoder's answer for `In` on the response ports and changes nothing else (R92). -/
theorem exec_decode (s : State) :
    exec .decode s = .next { s with
      response := some ⟨(decodeFrame s.port.inp).1, (decodeFrame s.port.inp).2, 0x0000#16⟩ } := by
  have hexec : exec .decode s = .next (s.deliver s (decodeFrame s.port.inp)) := rfl
  rw [hexec]
  obtain ⟨-, he⟩ | ⟨-, -, he⟩ | ⟨-, -, he⟩ := decodeFrame_cases s.port.inp <;> rw [he]
  · rw [State.deliver_of_error (by decide), State.raise]
  · rw [State.deliver_of_error (by decide), State.raise]
  · rw [State.deliver_of_ok rfl, State.respond]

end Sys2Proof.Machine
end

section
/-! PROOFS. The statements of spec/42_frame_decoder.md. -/

namespace Sys2Proof.Proofs

open Sys2Proof.Machine

/-- Settles O16: the decoder's answer in each of its three cases; in the last it is the payload field. -/
theorem decoderOutcome : Obligations.DecoderOutcome := by
  intro f
  refine ⟨decodeFrame_of_short, decodeFrame_of_mismatch, fun hlen hc => ?_⟩
  exact ⟨framePayload f, decodeFrame_of_passing hlen hc, framePayload_length hlen,
    fun _ => framePayload_getElem? f⟩

/-- Settles O17: both frames decode to their common tail, and `exec_decode` names neither `SEQ` nor the
constants. -/
theorem decoderIgnoresHeaderAndCounter : Obligations.DecoderIgnoresHeaderAndCounter := by
  refine ⟨fun h h' tail hlen hlen' htail hc hc' => ?_, fun s seq c => ?_⟩
  · exact ⟨decodeFrame_append hlen htail hc, decodeFrame_append hlen' htail hc'⟩
  · exact ⟨_, exec_decode s, exec_decode { s with seq := seq, params := c }⟩

/-- Settles O18: the decoder gives back the field sealed in the frame, which for a command payload is the Command
Sub-Frame. -/
theorem decoderTreatsVariantsAlike : Obligations.DecoderTreatsVariantsAlike := by
  refine ⟨fun c p seq f h => decodeFrame_of_encodeFrame_ok h, fun c p seq hhead hlen => ?_⟩
  exact ⟨_, commandBody c p, encodeFrame_of_command c seq hhead hlen, decodeFrame_sealFrame c seq _,
    commandBody_length c hlen, commandBody_eq c p⟩

/-- Settles O24: `DECODE` responds with the decoder's answer, case by case. -/
theorem decodeCompletes : Obligations.DecodeCompletes := by
  refine ⟨by decide, fun s => ⟨fun hlen hc => ?_, fun hlen => ?_, fun hlen hc => ?_⟩⟩
  · rw [exec_decode, decodeFrame_of_passing hlen hc, framePayload, headerLen, checksumLen]
  · rw [exec_decode, decodeFrame_of_short hlen]
  · rw [exec_decode, decodeFrame_of_mismatch hlen hc]

end Sys2Proof.Proofs
end

section
/-! PROOFS. Support: the last response is read by no operation, and what a response with an error says about how
its request was served. -/

namespace Sys2Proof.Machine

/-- `deliver` writes its response over the last one, whichever way the operation ends (R11). -/
theorem State.deliver_ignores_response (s done : State) (r : Option Response) (result : Status × Bytes) :
    State.deliver { s with response := r } { done with response := r } result = s.deliver done result := by
  by_cases h : result.1 = .ok
  · rw [State.deliver_of_ok h, State.deliver_of_ok h]; rfl
  · rw [State.deliver_of_error h, State.deliver_of_error h]; rfl

/-- No operation reads the last response: it writes its own over it (R25). -/
theorem exec_ignores_response (i : Instr) (s : State) (r : Option Response) :
    exec i { s with response := r } = exec i s := by
  cases i with
  | crc16 => rfl
  | encode => exact congrArg Host.Outcome.next (s.deliver_ignores_response s r _)
  | decode => exact congrArg Host.Outcome.next (s.deliver_ignores_response s r _)
  | seqInc => rfl
  | send => exact congrArg Host.Outcome.next (s.deliver_ignores_response s.advanceSeq r _)

/-- Serving a request does not read the last response, whatever the command word. -/
theorem serve_ignores_response (s : State) (r : Option Response) :
    serve { s with response := r } = serve s := by
  unfold serve
  cases decodeCmd s.port.cmd with
  | ok i => exact exec_ignores_response i s r
  | error e => rfl

/-- A request served with an error is served by raising that error, and nothing else (R101): the other ways an
operation can end respond `OK`. -/
theorem serve_error_inv {s t : State} {r : Response} (h : serve s = .next t)
    (hr : t.response = some r) (herr : r.status ≠ .ok) : ∃ e, t = s.raise e := by
  have hok : ∀ {u : State} {out val}, t ≠ u.respond out val := by
    rintro u out val rfl
    cases hr
    exact herr rfl
  obtain ⟨i, -, hs⟩ | ⟨-, -, hs⟩ := serve_cases s
  · obtain ⟨-, -, out, val, ht⟩ | ⟨-, e, -, ht⟩ | ⟨-, out, val, ht⟩ := exec_cases i s <;>
      cases h.symm.trans (hs.trans ht)
    · exact absurd rfl hok
    · exact ⟨e, rfl⟩
    · exact absurd rfl hok
  · cases h.symm.trans hs
    exact ⟨.unrecognizedInputShape, rfl⟩

end Sys2Proof.Machine
end

section
/-! PROOFS. The statements of spec/60_exceptions.md. -/

namespace Sys2Proof.Proofs

open Sys2Proof.Machine

/-- Settles O46: the failed request leaves only its response and its ports behind; the next request drives the
ports afresh, and nothing reads the response. -/
theorem failedOperationLeavesNoTrace : Obligations.FailedOperationLeavesNoTrace := by
  intro s t q q' rest r hp h hr herr
  have hserve : serve (s.latch q (.request q' :: rest)) = .next t := (step_of_request hp).symm.trans h
  obtain ⟨e, rfl⟩ := serve_error_inv hserve hr herr
  rw [step_of_request (State.raise_pending _ _), step_of_request rfl]
  exact serve_ignores_response (s.latch q' rest) _

end Sys2Proof.Proofs
end

section
/-! PROOFS. Support: the encoder's errors, the header fields of a frame, and the encoder's answer as the response of
`ENCODE` and `SEND`. -/

namespace Sys2Proof.Machine

/-! The encoder's answer. -/

/-- The encoder answers `OK` exactly for the encodable payloads (R67, R68). -/
theorem encodeFrame_ok_iff (c : Params) (p : Bytes) (seq : Byte) :
    (encodeFrame c p seq).1 = .ok ↔ EncodablePayload p :=
  ⟨encodable_of_encodeFrame_ok, fun hp => congrArg Prod.fst (encodeFrame_of_encodable c seq hp)⟩

/-- The encoder returns no frame with an error (R101). -/
theorem encodeFrame_error_empty {c : Params} {p : Bytes} {seq : Byte}
    (h : (encodeFrame c p seq).1 ≠ .ok) : (encodeFrame c p seq).2 = [] := by
  obtain ⟨-, he⟩ | ⟨-, -, he⟩ | ⟨-, -, he⟩ | ⟨-, -, -, he⟩ | ⟨-, -, -, he⟩ :=
    encodeFrame_cases c p seq <;> rw [he] at h ⊢
  · exact absurd rfl h
  · exact absurd rfl h

/-- The encoder answers `EmptyPayload` exactly for no bytes (R69). -/
theorem encodeFrame_empty_iff (c : Params) (p : Bytes) (seq : Byte) :
    encodeFrame c p seq = (.emptyPayload, []) ↔ p = [] := by
  refine ⟨fun h => ?_, by rintro rfl; rfl⟩
  obtain ⟨hlen, -⟩ | ⟨-, -, he⟩ | ⟨-, -, he⟩ | ⟨-, -, -, he⟩ | ⟨-, -, -, he⟩ := encodeFrame_cases c p seq
  · exact List.eq_nil_of_length_eq_zero hlen
  all_goals cases h.symm.trans he

/-- The encoder answers `CommandTooShort` exactly for a command payload of fewer than 6 bytes (R75). -/
theorem encodeFrame_commandTooShort_iff (c : Params) (p : Bytes) (seq : Byte) :
    encodeFrame c p seq = (.commandTooShort, []) ↔ p.head? = some 0x23#8 ∧ p.length < 6 := by
  obtain ⟨hlen, he⟩ | ⟨hhead, hlen, he⟩ | ⟨-, hlen, he⟩ | ⟨-, hhead, -, he⟩ | ⟨-, hhead, -, he⟩ :=
    encodeFrame_cases c p seq <;> rw [he]
  · simp [List.eq_nil_of_length_eq_zero hlen]
  · simp [hhead, hlen]
  · simp [hlen]
  · simp [hhead]
  · simp [hhead]

/-! The header of a frame. -/

/-- The header's parts at their offsets (R49, R70). -/
theorem header_slices (c : Params) (seq : Byte) :
    slice (header c seq) 0 2 = c.fc.toList ∧
    slice (header c seq) 2 3 = [seq] ∧
    slice (header c seq) 3 5 = c.dstPan.toList ∧
    slice (header c seq) 5 13 = c.dstAddr.toList ∧
    slice (header c seq) 13 21 = c.srcAddr.toList := by
  simp only [header, slice_append_left, slice_append_right, slice_zero_of_length_le,
    List.length_append, List.length_singleton, Vector.length_toList, Nat.reduceAdd, Nat.reduceSub,
    Nat.reduceLeDiff, le_refl, and_self]

/-- A frame's slices within the first 21 bytes are the header's (R49). -/
theorem frame_slice_header (c : Params) (seq : Byte) (body : Bytes) {i j : Nat} (h : j ≤ 21) :
    slice (sealFrame (header c seq ++ body)) i j = slice (header c seq) i j := by
  rw [sealFrame, List.append_assoc, slice_append_left (by rwa [header_length])]

/-- What follows the sequence byte in a frame's header does not depend on that byte (R70). -/
theorem frame_slice_addresses (c : Params) (seq : Byte) (body : Bytes) :
    slice (sealFrame (header c seq ++ body)) 3 21 =
      c.dstPan.toList ++ c.dstAddr.toList ++ c.srcAddr.toList := by
  obtain ⟨-, -, hpan, hdst, hsrc⟩ := header_slices c seq
  rw [frame_slice_header c seq body (Nat.le_refl 21), ← hpan, ← hdst, ← hsrc,
    slice_append_slice _ (by decide) (by decide), slice_append_slice _ (by decide) (by decide)]

/-! What the invariant asks of the encoder's answer. -/

/-- The frame for an encodable payload has `23 + N` bytes (R77). -/
theorem frame_length (c : Params) {p : Bytes} (seq : Byte) (hp : EncodablePayload p) :
    (sealFrame (header c seq ++ payloadField c p)).length = 23 + payloadFieldLen p := by
  rw [sealFrame_length, List.length_append, header_length, payloadField_length c hp]
  omega

/-- The header and payload field of an encodable payload, sealed, fit the constants (R35, R77, R79). -/
theorem frameFits_sealFrame (c : Params) {p : Bytes} (seq : Byte) (hp : EncodablePayload p) :
    FrameFits c (sealFrame (header c seq ++ payloadField c p)) := by
  obtain ⟨hmin, hmax⟩ := payloadFieldLen_bounds hp
  have hlen := frame_length c seq hp
  obtain ⟨hfc, -, hpan, hdst, hsrc⟩ := header_slices c seq
  exact ⟨by omega, by omega, checksum_sealFrame _,
    (frame_slice_header c seq _ (by decide)).trans hfc,
    (frame_slice_header c seq _ (by decide)).trans hpan,
    (frame_slice_header c seq _ (by decide)).trans hdst,
    (frame_slice_header c seq _ (by decide)).trans hsrc⟩

/-- Every frame the encoder returns fits the constants. -/
theorem encodeFrame_ok_fits {c : Params} {p f : Bytes} {seq : Byte}
    (h : encodeFrame c p seq = (.ok, f)) : FrameFits c f := by
  have hp : EncodablePayload p := encodable_of_encodeFrame_ok (congrArg Prod.fst h)
  cases h.symm.trans (encodeFrame_of_encodable c seq hp)
  exact frameFits_sealFrame c seq hp

/-- The frame field of the sequence number is the sequence byte the encoder was given (R32). -/
theorem encodeFrame_ok_frameSeq {c : Params} {p f : Bytes} {seq : Byte}
    (h : encodeFrame c p seq = (.ok, f)) : frameSeq f = [seq] := by
  obtain ⟨body, rfl⟩ := encodeFrame_ok_header h
  obtain ⟨-, hseq, -⟩ := header_slices c seq
  exact (frame_slice_header c seq body (by decide)).trans hseq

/-- The encoder's answer as a response fits `ENCODE` and `SEND` (R80, R95, R100). -/
theorem encoderFits_encodeFrame (c : Params) (p : Bytes) (seq : Byte) :
    EncoderFits c ⟨(encodeFrame c p seq).1, (encodeFrame c p seq).2, 0x0000#16⟩ := by
  have hframe (hok : (encodeFrame c p seq).1 = .ok) : FrameFits c (encodeFrame c p seq).2 :=
    encodeFrame_ok_fits (Prod.ext hok rfl)
  refine ⟨rfl, ?_⟩
  obtain ⟨-, he⟩ | ⟨-, -, he⟩ | ⟨-, -, he⟩ | ⟨-, -, -, he⟩ | ⟨-, -, -, he⟩ :=
    encodeFrame_cases c p seq
  · exact .inr (.inl (congrArg Prod.fst he))
  · exact .inr (.inr (.inl (congrArg Prod.fst he)))
  · exact .inl ⟨congrArg Prod.fst he, hframe (congrArg Prod.fst he)⟩
  · exact .inr (.inr (.inr (congrArg Prod.fst he)))
  · exact .inl ⟨congrArg Prod.fst he, hframe (congrArg Prod.fst he)⟩

/-! `ENCODE` and `SEND`. -/

/-- A result that carries nothing with an error is delivered as it stands (R101). -/
theorem State.deliver_eq {s done : State} {result : Status × Bytes}
    (h : result.1 ≠ .ok → result.2 = []) :
    s.deliver done result = { (if result.1 = .ok then done else s) with
      response := some ⟨result.1, result.2, 0x0000#16⟩ } := by
  by_cases hok : result.1 = .ok
  · rw [State.deliver_of_ok hok, if_pos hok, State.respond, hok]
  · rw [State.deliver_of_error hok, if_neg hok, State.raise, h hok]

/-- `ENCODE` puts the encoder's answer for `In` and `SeqIn` on the response ports and changes nothing else (R80). -/
theorem exec_encode (s : State) :
    exec .encode s = .next { s with
      response := some ⟨(encodeFrame s.params s.port.inp s.port.seqIn).1,
        (encodeFrame s.params s.port.inp s.port.seqIn).2, 0x0000#16⟩ } := by
  have hexec : exec .encode s = .next (s.deliver s (encodeFrame s.params s.port.inp s.port.seqIn)) := rfl
  rw [hexec, State.deliver_eq encodeFrame_error_empty, ite_self]

/-- `SEND` puts the encoder's answer for `In` and the counter on the response ports and, if that is `OK`, advances
the counter (R95, R97). -/
theorem exec_send (s : State) :
    exec .send s = .next { s with
      seq := if (encodeFrame s.params s.port.inp s.seq).1 = .ok then nextSeq s.seq else s.seq
      response := some ⟨(encodeFrame s.params s.port.inp s.seq).1,
        (encodeFrame s.params s.port.inp s.seq).2, 0x0000#16⟩ } := by
  have hexec : exec .send s =
      .next (s.deliver s.advanceSeq (encodeFrame s.params s.port.inp s.seq)) := rfl
  rw [hexec, State.deliver_eq encodeFrame_error_empty]
  split <;> rfl

end Sys2Proof.Machine
end

section
/-! PROOFS. Support: a step by the host's next event, and what it leaves unchanged. -/

namespace Sys2Proof.Machine

/-- What a step can do: nothing, the reset event, or serving the host's next request (R36, R38, R114). -/
theorem step_cases {s t : State} (h : step s = .next t) :
    (s.pending = [] ∧ t = s) ∨
    (∃ rest, s.pending = .reset :: rest ∧ t = s.applyReset rest) ∨
    (∃ q rest, s.pending = .request q :: rest ∧ serve (s.latch q rest) = .next t) := by
  match hp : s.pending with
  | [] =>
    cases h.symm.trans (step_of_idle hp)
    exact .inl ⟨rfl, rfl⟩
  | .reset :: rest =>
    cases h.symm.trans (step_of_reset hp)
    exact .inr (.inl ⟨rest, rfl, rfl⟩)
  | .request q :: rest => exact .inr (.inr ⟨q, rest, rfl, (step_of_request hp).symm.trans h⟩)

/-- Serving a request leaves the request ports, the configuration and the host's further events (R17, R28). -/
theorem serve_frame {s t : State} (h : serve s = .next t) :
    t.port = s.port ∧ t.params = s.params ∧ t.debug = s.debug ∧ t.pending = s.pending := by
  obtain ⟨i, -, hs⟩ | ⟨-, -, hs⟩ := serve_cases s
  · obtain ⟨hport, hparams, hdebug, hpending, -⟩ := Proofs.operationFrame i s t (hs.symm.trans h)
    exact ⟨hport, hparams, hdebug, hpending⟩
  · cases h.symm.trans hs
    exact ⟨rfl, rfl, rfl, rfl⟩

/-- No step changes the configuration (R17, R18, decision D9). -/
theorem step_config {s t : State} (h : step s = .next t) : t.params = s.params ∧ t.debug = s.debug := by
  obtain ⟨-, rfl⟩ | ⟨rest, -, rfl⟩ | ⟨q, rest, -, hserve⟩ := step_cases h
  · exact ⟨rfl, rfl⟩
  · exact ⟨rfl, rfl⟩
  · obtain ⟨-, hparams, hdebug, -⟩ := serve_frame hserve
    exact ⟨hparams, hdebug⟩

/-! The response invariant. -/

/-- The decoder's answer as a response fits `DECODE` (R92, R100). -/
theorem decodeFits_decodeFrame (c : Params) (q : Request) :
    OperationFits c q ⟨(decodeFrame q.inp).1, (decodeFrame q.inp).2, 0x0000#16⟩ .decode := by
  refine ⟨rfl, ?_⟩
  obtain ⟨hlen, he⟩ | ⟨-, hc, he⟩ | ⟨hlen, hc, he⟩ := decodeFrame_cases q.inp <;> rw [he]
  · exact .inr (.inl ⟨rfl, hlen⟩)
  · exact .inr (.inr ⟨rfl, hc⟩)
  · have hout : (framePayload q.inp).length + 23 = q.inp.length := by
      rw [framePayload_length hlen]
      omega
    exact .inl ⟨rfl, hout, hc⟩

/-- Every operation's response fits the operation and the operands it took (R45, R100). -/
theorem exec_fits {i : Instr} {s t : State} {r : Response} (h : exec i s = .next t)
    (hr : t.response = some r) : OperationFits s.params s.port r i := by
  cases i with
  | crc16 => cases h; cases hr; rfl
  | encode =>
    cases h.symm.trans (exec_encode s)
    cases hr
    exact ⟨encoderFits_encodeFrame _ _ _, fun hok => encodeFrame_ok_frameSeq (Prod.ext hok rfl)⟩
  | decode =>
    cases h.symm.trans (exec_decode s)
    cases hr
    exact decodeFits_decodeFrame s.params s.port
  | seqInc => cases h; cases hr; rfl
  | send =>
    cases h.symm.trans (exec_send s)
    cases hr
    exact encoderFits_encodeFrame _ _ _

/-- The response to a request fits it, whatever its command word and whatever stood on the ports before. -/
theorem serve_fits {s t : State} {r : Response} (h : serve s = .next t) (hr : t.response = some r) :
    ResponseFits s.params s.port r := by
  have hsilent : r.status ≠ .ok → r.out = [] ∧ r.val = 0x0000#16 := by
    intro herr
    obtain ⟨e, rfl⟩ := serve_error_inv h hr herr
    cases hr
    exact ⟨rfl, rfl⟩
  refine ⟨hsilent, ?_⟩
  obtain ⟨i, hi, hs⟩ | ⟨e, he, hs⟩ := serve_cases s
  · rw [hi]
    exact exec_fits (hs.symm.trans h) hr
  · rw [he]
    cases h.symm.trans hs
    cases hr
    rfl

/-- Serving a request establishes the invariant, from any state. -/
theorem inv_of_serve {s t : State} (h : serve s = .next t) : t.Inv := by
  intro r hr
  obtain ⟨hport, hparams, -⟩ := serve_frame h
  rw [hport, hparams]
  exact serve_fits h hr

/-- With no response defined there is nothing to fit. -/
theorem inv_of_no_response {s : State} (h : s.response = none) : s.Inv := by
  intro r hr
  cases h.symm.trans hr

end Sys2Proof.Machine
end

section
/-! PROOFS. The round trip of a plain payload, and the response invariant. -/

namespace Sys2Proof.Proofs

open Sys2Proof.Machine

/-- Settles O19: `ENCODE` seals header and payload, and the decoder, by the self-check property, gives the payload
back. -/
theorem encodeThenDecodeReturnsPlainPayload : Obligations.EncodeThenDecodeReturnsPlainPayload := by
  intro s hne hplain hlen
  have hframe := encodeFrame_of_plain s.params s.port.seqIn hne hplain hlen
  refine ⟨_, sealFrame (header s.params s.port.seqIn ++ s.port.inp), exec_encode s, ?_, ?_⟩
  · rw [hframe]
  · intro u hu
    rw [exec_decode, hu, decodeFrame_sealFrame]

/-- Settles O39: a request's response fits the request whatever the state before; a reset event leaves no response,
and an idle step the one before. -/
theorem stepKeepsResponseInvariant : Obligations.StepKeepsResponseInvariant := by
  intro s t hinv h
  obtain ⟨-, rfl⟩ | ⟨rest, -, rfl⟩ | ⟨q, rest, -, hserve⟩ := step_cases h
  · exact hinv
  · exact inv_of_no_response rfl
  · exact inv_of_serve hserve

/-- Settles O40: construction defines no response. -/
theorem resetMeetsResponseInvariant : Obligations.ResetMeetsResponseInvariant :=
  ⟨inv_of_no_response rfl, fun _ _ => inv_of_no_response rfl⟩

end Sys2Proof.Proofs
end

section
/-! PROOFS. Support: the Checksum Engine over zero bytes, over sums and over one flipped bit, and its byte-at-a-time
form. -/

namespace Sys2Proof.Machine

/-! Zero bytes. -/

/-- A zero input bit keeps zero at zero and nonzero nonzero: bit 15 after the step is the bit shifted out, the
others are the rest of the accumulator. -/
theorem crcBit_false_eq_zero_iff (acc : Word16) : crcBit acc false = 0x0000#16 ↔ acc = 0x0000#16 := by
  refine ⟨fun h => ?_, by rintro rfl; decide⟩
  have hbits (k : Nat) : (acc.getLsbD (k + 1) ^^ (acc.getLsbD 0 && crcMask.getLsbD k)) = false := by
    have hbit := crcBit_getLsbD acc false k
    rw [h, BitVec.getLsbD_zero, Bool.false_xor] at hbit
    exact hbit.symm
  have hlow : acc.getLsbD 0 = false := by
    have htop := hbits 15
    rwa [BitVec.getLsbD_of_ge acc 16 (Nat.le_refl 16), Bool.false_xor, crcMask_getLsbD (by decide),
      decide_eq_true (.inl rfl), Bool.and_true] at htop
  refine BitVec.eq_of_getLsbD_eq fun k _ => ?_
  cases k with
  | zero => rw [hlow, BitVec.getLsbD_zero]
  | succ k =>
    have hnext := hbits k
    rwa [hlow, Bool.false_and, Bool.xor_false, ← BitVec.getLsbD_zero] at hnext

/-- Zero input bits, however many, keep zero at zero and nonzero nonzero. -/
theorem foldl_crcBit_zeros_eq_zero_iff (n : Nat) (acc : Word16) :
    (bitStream (List.replicate n 0x00#8)).foldl crcBit acc = 0x0000#16 ↔ acc = 0x0000#16 := by
  induction n generalizing acc with
  | zero => rfl
  | succ n ih =>
    rw [List.replicate_succ, bitStream_cons, List.foldl_append, ih]
    simp [byteBits, crcBit_false_eq_zero_iff]

/-- Zero bytes at the end decide nothing about a zero checksum. -/
theorem checksum_append_zeros_eq_zero_iff (b : Bytes) (n : Nat) :
    checksum (b ++ List.replicate n 0x00#8) = 0x0000#16 ↔ checksum b = 0x0000#16 := by
  rw [checksum_append, foldl_crcBit_zeros_eq_zero_iff]

@[simp] theorem checksum_zeros (n : Nat) : checksum (List.replicate n 0x00#8) = 0x0000#16 :=
  (foldl_crcBit_zeros_eq_zero_iff n crcInit).mpr rfl

/-- Zero bytes in front have no effect on the checksum. -/
theorem checksum_zeros_append (n : Nat) (b : Bytes) :
    checksum (List.replicate n 0x00#8 ++ b) = checksum b := by
  rw [checksum_append, checksum_zeros, checksum, crcInit]

/-! Sums. -/

/-- The engine is linear: over the sum of two strings of equal length, from the sum of two accumulators, it ends
in the sum. -/
theorem foldl_crcBit_xorBytes {a e : Bytes} (h : a.length = e.length) (u w : Word16) :
    (bitStream (xorBytes a e)).foldl crcBit (u ^^^ w) =
      (bitStream a).foldl crcBit u ^^^ (bitStream e).foldl crcBit w := by
  induction a generalizing e u w with
  | nil =>
    cases e with
    | nil => rfl
    | cons y e => cases h
  | cons x a ih =>
    cases e with
    | nil => cases h
    | cons y e =>
      have hbyte : (byteBits (x ^^^ y)).foldl crcBit (u ^^^ w) =
          (byteBits x).foldl crcBit u ^^^ (byteBits y).foldl crcBit w := by
        simp [byteBits, crcBit_xor]
      have hcons : xorBytes (x :: a) (y :: e) = (x ^^^ y) :: xorBytes a e := rfl
      rw [hcons, bitStream_cons, bitStream_cons, bitStream_cons, List.foldl_append, List.foldl_append,
        List.foldl_append, hbyte, ih (Nat.succ.inj h)]

/-- The checksum of a sum is the sum of the checksums (R64). -/
theorem checksum_xorBytes {a e : Bytes} (h : a.length = e.length) :
    checksum (xorBytes a e) = checksum a ^^^ checksum e :=
  foldl_crcBit_xorBytes h crcInit crcInit

/-! One flipped bit. -/

@[simp] theorem flipBit_length (b : Bytes) (i k : Nat) : (flipBit b i k).length = b.length := by
  rw [flipBit, List.length_modify]

/-- Flipping a bit adds the all-zero string with that bit flipped. -/
theorem flipBit_eq_xorBytes (b : Bytes) (i k : Nat) :
    flipBit b i k = xorBytes b (flipBit (List.replicate b.length 0x00#8) i k) := by
  refine List.ext_getElem (by simp [xorBytes]) fun j _ _ => ?_
  by_cases h : i = j <;> simp [flipBit, xorBytes, h]

/-- Flipping a bit of an all-zero string leaves one nonzero byte between zero bytes. -/
theorem flipBit_zeros {n i : Nat} (k : Nat) (h : i < n) :
    flipBit (List.replicate n 0x00#8) i k =
      List.replicate i 0x00#8 ++ ([1#8 <<< k] ++ List.replicate (n - (i + 1)) 0x00#8) := by
  rw [flipBit, List.modify_eq_take_cons_drop (by rwa [List.length_replicate])]
  simp [Nat.min_eq_left (Nat.le_of_lt h)]

/-- A byte with one bit set has a nonzero checksum. -/
theorem checksum_oneBit_ne_zero {k : Nat} (h : k < 8) : checksum [1#8 <<< k] ≠ 0x0000#16 := by
  revert k
  decide

/-- A string of zero bytes with one bit flipped has a nonzero checksum. -/
theorem checksum_flipBit_zeros_ne_zero {n i k : Nat} (hi : i < n) (hk : k < 8) :
    checksum (flipBit (List.replicate n 0x00#8) i k) ≠ 0x0000#16 := by
  rw [flipBit_zeros k hi, checksum_zeros_append, Ne, checksum_append_zeros_eq_zero_iff]
  exact checksum_oneBit_ne_zero hk

/-- One flipped bit makes a zero checksum nonzero (R65). -/
theorem checksum_flipBit_ne_zero {f : Bytes} {i k : Nat} (hf : checksum f = 0x0000#16)
    (hi : i < f.length) (hk : k < 8) : checksum (flipBit f i k) ≠ 0x0000#16 := by
  rw [flipBit_eq_xorBytes, checksum_xorBytes (by simp), hf, BitVec.zero_xor]
  exact checksum_flipBit_zeros_ne_zero hi hk

/-! The byte-at-a-time form. -/

/-- A shift step is a bit step with input bit 0. -/
theorem crcShift_eq_crcBit (acc : Word16) : crcShift acc = crcBit acc false := by
  simp only [crcShift, crcBit, Bool.false_xor]
  cases acc.getLsbD 0 <;> simp

/-- A shift step with input bits `w` added in takes `w`'s bit 0 as a bit step does and leaves the others added in,
shifted on. -/
theorem crcShift_xor (acc w : Word16) :
    crcShift (acc ^^^ w) = crcBit acc (w.getLsbD 0) ^^^ w >>> 1 := by
  calc crcShift (acc ^^^ w)
      = crcBit (acc ^^^ w) (w.getLsbD 0 ^^ w.getLsbD 0) := by rw [crcShift_eq_crcBit, Bool.xor_self]
    _ = crcBit acc (w.getLsbD 0) ^^^ w >>> 1 := by rw [crcBit_xor, crcBit_getLsbD_zero]

/-- After `n` shift steps the low `n` bits of `w` have been taken as input bits and the others are still added in. -/
theorem crcShift_iterate_xor (acc w : Word16) (n : Nat) :
    crcShift^[n] (acc ^^^ w) = ((List.range n).map w.getLsbD).foldl crcBit acc ^^^ w >>> n := by
  induction n with
  | zero => simp
  | succ n ih =>
    have hbit : w.getLsbD n = (w >>> n).getLsbD 0 := by simp
    rw [Function.iterate_succ_apply', ih, crcShift_xor, List.range_succ, List.map_append,
      List.foldl_append, List.map_singleton, List.foldl_cons, List.foldl_nil, hbit,
      ← BitVec.shiftRight_add]

/-- The byte-at-a-time work on one byte is the byte's eight bit steps (R63). -/
theorem crcByte_eq_foldl (acc : Word16) (v : Byte) :
    crcByte acc v = (byteBits v).foldl crcBit acc := by
  have hbits : (List.range 8).map (v.setWidth 16).getLsbD = byteBits v := by
    simp [byteBits, List.range_succ]
  have hgone : v.setWidth 16 >>> 8 = 0x0000#16 := by
    ext
    simp
  calc crcByte acc v
      = crcShift^[8] (acc ^^^ v.setWidth 16) := rfl
    _ = (byteBits v).foldl crcBit acc := by
      rw [crcShift_iterate_xor, hbits, hgone, BitVec.xor_zero]

/-- The byte-at-a-time form computes the checksum (R63). -/
theorem checksumBytewise_eq (b : Bytes) : checksumBytewise b = checksum b := by
  have hbyte : crcByte = fun acc v => (byteBits v).foldl crcBit acc := funext₂ crcByte_eq_foldl
  rw [checksumBytewise, hbyte, ← List.foldl_flatMap, checksum, bitStream]

end Sys2Proof.Machine
end

section
/-! PROOFS. The properties of spec/40_checksum.md section 4. -/

namespace Sys2Proof.Proofs

open Sys2Proof.Machine

/-- Settles O3: shifting a byte in is taking its eight bits in order, by linearity of the bit step. -/
theorem bytewiseChecksumAgrees : Obligations.BytewiseChecksumAgrees :=
  checksumBytewise_eq

/-- Settles O4: the bytes appended are those `sealFrame` appends. -/
theorem checksumOfSealedBytesIsZero : Obligations.ChecksumOfSealedBytesIsZero :=
  checksum_sealFrame

/-- Settles O5: zero bits keep a zero accumulator at zero. -/
theorem zeroBytesInvisibleToChecksum : Obligations.ZeroBytesInvisibleToChecksum :=
  ⟨checksum_zeros_append, fun n b => (checksum_append_zeros_eq_zero_iff b n).mpr⟩

/-- Settles O6, on the bits of one step. -/
theorem zeroBitKeepsAccumulatorNonzero : Obligations.ZeroBitKeepsAccumulatorNonzero :=
  crcBit_false_eq_zero_iff

/-- Settles O7, by linearity of the bit step. -/
theorem checksumLinear : Obligations.ChecksumLinear :=
  fun _ _ => checksum_xorBytes

/-- Settles O8: the flip adds a string with one bit set, whose checksum is not 0. -/
theorem singleBitFlipChangesZeroChecksum : Obligations.SingleBitFlipChangesZeroChecksum :=
  fun _ _ _ => checksum_flipBit_ne_zero

end Sys2Proof.Proofs
end

section
/-! PROOFS. The encoder's errors and frames, and what the decoder makes of changed frames. -/

namespace Sys2Proof.Machine

/-- Only a string of at least 23 bytes with checksum 0 decodes (R81). -/
theorem decodeFrame_ok_inv {f p : Bytes} (h : decodeFrame f = (.ok, p)) :
    23 ≤ f.length ∧ checksum f = 0x0000#16 := by
  obtain ⟨-, he⟩ | ⟨-, -, he⟩ | ⟨hlen, hc, -⟩ := decodeFrame_cases f
  · cases h.symm.trans he
  · cases h.symm.trans he
  · exact ⟨hlen, hc⟩

/-- A frame the encoder returns has a payload field that is not empty (R51). -/
theorem encodeFrame_ok_payload_ne_nil {c : Params} {p f : Bytes} {seq : Byte}
    (h : encodeFrame c p seq = (.ok, f)) : framePayload f ≠ [] := by
  have hp : EncodablePayload p := encodable_of_encodeFrame_ok (congrArg Prod.fst h)
  obtain ⟨hpos, -⟩ := payloadFieldLen_bounds hp
  rw [encodeFrame_ok_payload h]
  exact List.ne_nil_of_length_pos (by rwa [payloadField_length c hp])

end Sys2Proof.Machine

namespace Sys2Proof.Proofs

open Sys2Proof.Machine

/-- Settles O14, clause by clause of the encoder's answer. -/
theorem encoderErrorCauses : Obligations.EncoderErrorCauses :=
  fun c p seq => ⟨encodeFrame_empty_iff c p seq, encodeFrame_commandTooShort_iff c p seq,
    encodeFrame_ok_iff c p seq, encodeFrame_error_empty⟩

/-- Settles O15: both frames begin with the header, which depends on nothing but the constants outside byte 2. -/
theorem encodedFrameValid : Obligations.EncodedFrameValid := by
  intro c p p' seq seq' f f' h h'
  obtain ⟨-, -, hzero, hfc, -⟩ := encodeFrame_ok_fits h
  obtain ⟨-, -, -, hfc', -⟩ := encodeFrame_ok_fits h'
  refine ⟨hzero, encodeFrame_ok_payload_ne_nil h, hfc.trans hfc'.symm, ?_⟩
  obtain ⟨body, rfl⟩ := encodeFrame_ok_header h
  obtain ⟨body', rfl⟩ := encodeFrame_ok_header h'
  rw [frame_slice_addresses, frame_slice_addresses]

/-- Settles O20: the flip keeps the length and makes the checksum nonzero. -/
theorem corruptedFrameRejected : Obligations.CorruptedFrameRejected := by
  intro c p seq f i k h hi hk
  obtain ⟨hlen, -, hzero, -⟩ := encodeFrame_ok_fits h
  have hmin : 23 ≤ (flipBit f i k).length := by rw [flipBit_length]; omega
  exact decodeFrame_of_mismatch hmin (checksum_flipBit_ne_zero hzero hi hk)

/-- Settles O21: zero bytes keep a zero checksum, so both strings pass and decode to their payload fields. -/
theorem zeroPaddedFramesAccepted : Obligations.ZeroPaddedFramesAccepted := by
  refine ⟨fun n hn => ?_, fun f p k _ h => ?_⟩
  · have hlen : 23 ≤ (List.replicate n 0x00#8).length := by rwa [List.length_replicate]
    have hfield : framePayload (List.replicate n 0x00#8) = List.replicate (n - 23) 0x00#8 := by
      simp only [framePayload, slice, headerLen, checksumLen, List.length_replicate,
        List.drop_replicate, List.take_replicate]
      congr 1
      omega
    rw [decodeFrame_of_passing hlen (checksum_zeros n), hfield]
  · obtain ⟨hlen, hzero⟩ := decodeFrame_ok_inv h
    have hpadded : (f ++ List.replicate k 0x00#8).length = f.length + k := by simp
    rw [decodeFrame_of_passing (by omega) ((checksum_append_zeros_eq_zero_iff f k).mpr hzero),
      framePayload, hpadded, headerLen, checksumLen]

end Sys2Proof.Proofs
end

section
/-! PROOFS. The five operations. -/

namespace Sys2Proof.Machine

/-- An encoder error whatever the sequence byte is what both `ENCODE` and `SEND` raise (R97, R101). -/
theorem exec_of_encoder_error {i : Instr} (hi : i = .encode ∨ i = .send) {s : State} {e : Status}
    (he : e ≠ .ok) (h : ∀ seq, encodeFrame s.params s.port.inp seq = (e, [])) :
    exec i s = .next (s.raise e) := by
  rcases hi with rfl | rfl
  · rw [exec_encode, h, State.raise]
  · rw [exec_send, h, if_neg he, State.raise]

/-- `SEND` of a payload that gets a frame delivers it with the counter advanced (R95, R96). -/
theorem exec_send_of_frame {s : State} {f : Bytes}
    (h : encodeFrame s.params s.port.inp s.seq = (.ok, f)) :
    exec .send s = .next (s.advanceSeq.respond f 0x0000#16) := by
  rw [exec_send, h, if_pos rfl, State.advanceSeq, State.respond]

/-- The operations without state write the response ports and nothing else (R15, R25). -/
theorem exec_stateless {i : Instr} (hi : i = .crc16 ∨ i = .encode ∨ i = .decode) {s t : State}
    (h : exec i s = .next t) : t = { s with response := t.response } := by
  rcases hi with rfl | rfl | rfl
  · cases h; rfl
  · cases h.symm.trans (exec_encode s); rfl
  · cases h.symm.trans (exec_decode s); rfl

end Sys2Proof.Machine

namespace Sys2Proof.Proofs

open Sys2Proof.Machine

/-- Settles O22: `CRC16` is defined as this response. -/
theorem crc16Completes : Obligations.Crc16Completes :=
  fun _ => rfl

/-- Settles O23: the encoder's answer is a frame, and `ENCODE` delivers it. -/
theorem encodeCompletes : Obligations.EncodeCompletes := by
  intro s hp
  have hframe := encodeFrame_of_encodable s.params s.port.seqIn hp
  exact ⟨_, hframe, frame_length _ _ hp, by rw [exec_encode, hframe]⟩

/-- Settles O25: the counter's next value is its increment modulo 256. -/
theorem seqIncCompletes : Obligations.SeqIncCompletes :=
  fun s => ⟨nextSeq s.seq, nextSeq_toNat s.seq, exec_seqInc s⟩

/-- Settles O26: the encoder's answer for the counter is a frame, so `SEND` delivers it and advances the counter. -/
theorem sendCompletes : Obligations.SendCompletes := by
  intro s hp
  have hframe := encodeFrame_of_encodable s.params s.seq hp
  exact ⟨_, nextSeq s.seq, hframe, frame_length _ _ hp, nextSeq_toNat s.seq,
    exec_send_of_frame hframe⟩

/-- Settles O28: each of the three payloads is an encoder error, whatever the sequence byte. -/
theorem encodeAndSendRaise : Obligations.EncodeAndSendRaise := by
  intro i s hi
  refine ⟨fun hempty => ?_, fun hhead hlen => ?_, fun hhead hlen => ?_⟩
  · exact exec_of_encoder_error hi (by decide) fun seq => (encodeFrame_empty_iff _ _ seq).mpr hempty
  · exact exec_of_encoder_error hi (by decide) fun seq =>
      (encodeFrame_commandTooShort_iff _ _ seq).mpr ⟨hhead, hlen⟩
  · exact exec_of_encoder_error hi (by decide) fun seq => encodeFrame_of_tooLarge _ seq hhead hlen

/-- Settles O29: both responses are the encoder's answer for the counter's value. -/
theorem sendRespondsAsEncodeWithCounter : Obligations.SendRespondsAsEncodeWithCounter :=
  fun s => ⟨_, _, exec_send s, exec_encode _, rfl⟩

/-- Settles O31: the first operation wrote only the response, which the second does not read. -/
theorem statelessOperationsIdempotent : Obligations.StatelessOperationsIdempotent := by
  intro i s t hi h
  rw [exec_stateless hi h, exec_ignores_response, h, ← exec_stateless hi h]

/-- Settles O32: the equation of each operation names only the operands it takes. -/
theorem ignoredOperandsHaveNoEffect : Obligations.IgnoredOperandsHaveNoEffect := by
  intro i s
  cases i with
  | crc16 =>
    exact ⟨_, rfl, fun _ _ => ⟨_, rfl, rfl, rfl⟩, nofun, fun _ _ => ⟨_, rfl, rfl, rfl⟩⟩
  | encode =>
    exact ⟨_, exec_encode s, fun h => absurd rfl h, nofun, fun _ _ => ⟨_, exec_encode _, rfl, rfl⟩⟩
  | decode =>
    exact ⟨_, exec_decode s, fun _ _ => ⟨_, exec_decode _, rfl, rfl⟩, nofun,
      fun _ _ => ⟨_, exec_decode _, rfl, rfl⟩⟩
  | seqInc =>
    exact ⟨_, rfl, fun _ _ => ⟨_, rfl, rfl, rfl⟩, fun _ _ => ⟨_, rfl, rfl, rfl⟩, by simp⟩
  | send =>
    exact ⟨_, exec_send s, fun _ _ => ⟨_, exec_send _, rfl, rfl⟩, nofun, by simp⟩

end Sys2Proof.Proofs
end

section
/-! PROOFS. Support: which command words are reserved. -/

namespace Sys2Proof

/-- The operation field selects an operation unless it is one of the three reserved ones (R44). -/
theorem decodeOp_isOk (op : BitVec 3) :
    (decodeOp op).isOk = (op != 0b101#3 && op != 0b110#3 && op != 0b111#3) := by
  revert op
  decide

/-- A command word selects an operation exactly when it is well formed (R46). -/
theorem decodeCmd_isOk (w : Byte) : (decodeCmd w).isOk = cmdWellFormed w := by
  unfold decodeCmd cmdWellFormed
  by_cases h : cmdRsv w = 0b00000#5
  · rw [if_pos h, decodeOp_isOk, show reservedFieldClear w = true from beq_iff_eq.mpr h, Bool.true_and]
    rfl
  · rw [if_neg h, show reservedFieldClear w = false from beq_eq_false_iff_ne.mpr h, Bool.false_and]
    rfl

/-- The word of an operation has a clear reserved field and an operation field of at most 4 (R43, R44). -/
theorem cmdWord_toNat (i : Instr) : (cmdWord i).toNat % 8 < 5 ∧ (cmdWord i).toNat / 8 = 0 := by
  cases i <;> decide

end Sys2Proof
end

section
/-! PROOFS. The command word, the step and reset. -/

namespace Sys2Proof.Proofs

open Sys2Proof.Machine

/-- Settles O33: an operation's word decodes to it alone, and well-formed words are those that decode. -/
theorem commandWordRoundTrip : Obligations.CommandWordRoundTrip := by
  refine ⟨fun i rest => ?_, fun bytes rest i h => ?_, fun w => ?_⟩
  · have hword : decodeCmd (cmdWord i) = .ok i := (decodeCmd_eq_ok_iff _ i).mpr rfl
    simp [encode, decode, hword, Except.map]
  · cases bytes with
    | nil => cases h
    | cons w bytes =>
      cases hw : decodeCmd w with
      | error e => simp [decode, hw, Except.map] at h
      | ok j =>
        simp only [decode, hw, Except.map, Except.ok.injEq, Prod.mk.injEq] at h
        obtain ⟨rfl, rfl⟩ := h
        rw [(decodeCmd_eq_ok_iff w j).mp hw, encode, List.singleton_append]
  · rw [← decodeCmd_isOk]
    cases decodeCmd w <;> simp [Except.isOk, Except.toBool]

/-- Settles O34, word by word. -/
theorem commandWordsDecodeAsListed : Obligations.CommandWordsDecodeAsListed := by
  unfold Obligations.CommandWordsDecodeAsListed
  decide

/-- Settles O35: the step serves the latched request, whose word selects `i`. -/
theorem stepRunsDecodedOperation : Obligations.StepRunsDecodedOperation := by
  intro s q rest i hp hi
  have hport : decodeCmd (s.latch q rest).port.cmd = .ok i := hi
  rw [step_of_request hp, serve, hport, State.latch]

/-- Settles O36: no operation's word has such fields, so serving it rejects it. -/
theorem reservedWordAnswered : Obligations.ReservedWordAnswered := by
  intro s q rest hp hreserved
  rw [step_of_request hp]
  obtain ⟨i, hi, -⟩ | ⟨-, -, hs⟩ := serve_cases (s.latch q rest)
  · obtain ⟨hop, hrsv⟩ := cmdWord_toNat i
    have hword : q.cmd = cmdWord i := (decodeCmd_eq_ok_iff _ i).mp hi
    rw [hword] at hreserved
    omega
  · rw [hs, State.rejectWord, State.raise, State.latch]

/-- Settles O37, by the host's next event. -/
theorem idleAndResetSteps : Obligations.IdleAndResetSteps :=
  fun _ => ⟨step_of_idle, fun _ => step_of_reset⟩

/-- Settles O38: construction sets each field to the value claimed. -/
theorem resetState : Obligations.ResetState :=
  ⟨rfl, fun _ _ => ⟨rfl, rfl, rfl, rfl, rfl, rfl⟩⟩

end Sys2Proof.Proofs
end

section
/-! PROOFS. Support: runs, and what they do to the counter. -/

namespace Sys2Proof.Machine

/-- What every step keeps, every run keeps. -/
theorem run_keeps {P : State → Prop} (hstep : ∀ {s t : State}, P s → step s = .next t → P t) {k : Nat}
    {s t : State} (hs : P s) (h : Host.Core.run Sys2Proof.core k s = .next t) : P t := by
  induction k generalizing s with
  | zero => cases h; exact hs
  | succ k ih =>
    obtain ⟨u, hu, -⟩ := step_setDebug s s.debug
    exact ih (hstep hs hu) ((run_succ_of_step k hu).symm.trans h)

/-- A request to `SEQ_INC`, whatever its ignored operands, advances the counter and is taken off the events. -/
theorem step_of_seqInc {s : State} {b : Bytes} {v : Byte} {rest : List HostEvent}
    (h : s.pending = .request ⟨0x03#8, b, v⟩ :: rest) :
    step s = .next ((s.latch ⟨0x03#8, b, v⟩ rest).advanceSeq.respond [] 0x0000#16) := by
  rw [step_of_request h, serve_of_seqInc_word rfl]

/-- A request to `SEND` an encodable payload responds with a frame for the counter, advances the counter and is
taken off the events (R95, R96). -/
theorem step_of_send {s : State} {p : Bytes} {v : Byte} {rest : List HostEvent}
    (hp : EncodablePayload p) (h : s.pending = .request ⟨0x04#8, p, v⟩ :: rest) :
    ∃ f : Bytes, f[2]? = some s.seq ∧
      step s = .next ((s.latch ⟨0x04#8, p, v⟩ rest).advanceSeq.respond f 0x0000#16) := by
  have hword : decodeCmd 0x04#8 = .ok .send := (decodeCmd_eq_ok_iff _ .send).mpr rfl
  have hframe := encodeFrame_of_encodable s.params s.seq hp
  exact ⟨_, encodeFrame_ok_seqByte hframe,
    (Proofs.stepRunsDecodedOperation s _ rest .send h hword).trans
      (exec_send_of_frame (s := s.latch ⟨0x04#8, p, v⟩ rest) hframe)⟩

/-- `n` values on from the value after `v` is `n + 1` on from `v`, modulo 256 (R93). -/
theorem nextSeq_add (v : Byte) (n : Nat) : nextSeq v + BitVec.ofNat 8 n = v + BitVec.ofNat 8 (n + 1) := by
  rw [nextSeq, Nat.add_comm n, BitVec.ofNat_add, BitVec.add_assoc]

/-- A run over `SEQ_INC` requests adds their number to the counter (R94). -/
theorem run_seqIncs {n : Nat} {s : State} {b : Bytes} {v : Byte} {rest : List HostEvent}
    (h : s.pending = List.replicate n (HostEvent.request ⟨0x03#8, b, v⟩) ++ rest) :
    ∃ t : State, Host.Core.run Sys2Proof.core n s = .next t ∧
      t.seq = s.seq + BitVec.ofNat 8 n ∧ t.params = s.params ∧ t.pending = rest := by
  induction n generalizing s with
  | zero => exact ⟨s, rfl, by simp, rfl, h⟩
  | succ n ih =>
    have hstep := step_of_seqInc h
    obtain ⟨t, hrun, hseq, hparams, hpending⟩ := ih
      (s := (s.latch ⟨0x03#8, b, v⟩ _).advanceSeq.respond [] 0x0000#16) rfl
    refine ⟨t, (run_succ_of_step n hstep).trans hrun, ?_, hparams, hpending⟩
    exact hseq.trans (nextSeq_add s.seq n)

/-- In a run over `SEND` requests with encodable payloads the `k`-th (from 0) responds with a frame numbered `k` on
from the counter at the start, and leaves the counter one further (R96). -/
theorem run_sends {payloads : List Bytes} {s : State} {v : Byte} {rest : List HostEvent}
    (hp : ∀ p ∈ payloads, EncodablePayload p)
    (h : s.pending = payloads.map (fun p => HostEvent.request ⟨0x04#8, p, v⟩) ++ rest)
    {k : Nat} (hk : k < payloads.length) :
    ∃ (t : State) (f : Bytes), Host.Core.run Sys2Proof.core (k + 1) s = .next t ∧
      t.response = some ⟨.ok, f, 0x0000#16⟩ ∧ f[2]? = some (s.seq + BitVec.ofNat 8 k) ∧
      t.seq = s.seq + BitVec.ofNat 8 (k + 1) := by
  induction payloads generalizing s k with
  | nil => exact absurd hk (Nat.not_lt_zero k)
  | cons p payloads ih =>
    obtain ⟨hfirst, hothers⟩ := List.forall_mem_cons.mp hp
    obtain ⟨f, hf, hstep⟩ := step_of_send hfirst h
    cases k with
    | zero => exact ⟨_, f, run_succ_of_step 0 hstep, rfl, by simpa using hf, rfl⟩
    | succ k =>
      obtain ⟨t, g, hrun, hr, hg, hseq⟩ := ih
        (s := (s.latch ⟨0x04#8, p, v⟩ _).advanceSeq.respond f 0x0000#16) hothers rfl
        (Nat.lt_of_succ_lt_succ hk)
      refine ⟨t, g, (run_succ_of_step (k + 1) hstep).trans hrun, hr, ?_, ?_⟩
      · exact hg.trans (congrArg some (nextSeq_add s.seq k))
      · exact hseq.trans (nextSeq_add s.seq (k + 1))

end Sys2Proof.Machine
end

section
/-! PROOFS. The whole machine. -/

namespace Sys2Proof.Proofs

open Sys2Proof.Machine

/-- Settles O41: `run_setDebug` ends every run, with the flag as it is or changed, in a state. -/
theorem blockNeverStops : Obligations.BlockNeverStops := by
  intro s k
  obtain ⟨t, ht, -⟩ := run_setDebug k s s.debug
  exact ⟨t, ht⟩

/-- Settles O42: no step changes the configuration, so no run does. -/
theorem configurationNeverChanges : Obligations.ConfigurationNeverChanges := by
  intro k s t h
  refine run_keeps (P := fun u => u.params = s.params ∧ u.debug = s.debug) ?_ ⟨rfl, rfl⟩ h
  intro u w ⟨hparams, hdebug⟩ hstep
  obtain ⟨hparams', hdebug'⟩ := step_config hstep
  exact ⟨hparams'.trans hparams, hdebug'.trans hdebug⟩

/-- Settles O45: the request drives the ports afresh, and serving it does not read the response. -/
theorem earlierResponseUnread : Obligations.EarlierResponseUnread := by
  intro s q q' rest r hp
  have hchanged : step { s with port := q', response := r } =
      serve { s.latch q rest with response := r } := step_of_request hp
  rw [hchanged, serve_ignores_response, step_of_request hp]

/-- Settles O47: the counter's sums of `run_sends`, read as numbers; the last of 256 brings the sum back. -/
theorem consecutiveSendsNumberFrames : Obligations.ConsecutiveSendsNumberFrames := by
  intro s payloads rest v hp h
  refine ⟨fun k hk => ?_, fun hlen => ?_⟩
  · obtain ⟨t, f, hrun, hr, hf, hseq⟩ := run_sends hp h hk
    refine ⟨t, f, hrun, hr, ?_, ?_⟩
    · rw [hf, BitVec.ofNat_add, BitVec.ofNat_toNat, BitVec.setWidth_eq]
    · rw [hseq, BitVec.toNat_add, BitVec.toNat_ofNat]
      omega
  · obtain ⟨t, -, hrun, -, -, hseq⟩ := run_sends hp h (k := 255) (by omega)
    exact ⟨t, hrun, by simpa using hseq⟩

/-- Settles O48: the counter's sum of `run_seqIncs`, read as a number. -/
theorem consecutiveIncrements : Obligations.ConsecutiveIncrements := by
  intro s n b v rest h
  obtain ⟨t, hrun, hseq, hparams, hpending⟩ := run_seqIncs h
  refine ⟨t, hrun, ?_, hparams, hpending⟩
  rw [hseq, BitVec.toNat_add, BitVec.toNat_ofNat]
  omega

end Sys2Proof.Proofs
end
